-- ==== Sys2Proof/Word.lean ====
section
/-! DEFINITION. The word types of the KL-4820 (spec/00_scope.md, section 1.7): the widths and the index ranges that the
chapters use. -/

namespace Sys2Proof

/-- A word of the host bus, and a pixel: one 16-bit value (chapter 1, R1). -/
abbrev Word := BitVec 16

/-- A byte of a frame or notice, and every 8-bit number (sequence tags, present numbers, freed counts). -/
abbrev Byte := BitVec 8

/-- A 4-bit field: a capacity or a restart count (R104). -/
abbrev Nibble := BitVec 4

/-- A sequence number 0..4095, modulo 4096 (R91). -/
abbrev SeqNo := BitVec 12

/-- A link 0..3. -/
abbrev Link := Fin 4

/-- A chain position 0..3 of a link. -/
abbrev Position := Fin 4

/-- A tile index 0..15. -/
abbrev TileIdx := Fin 16

/-- A wall band 0..47. -/
abbrev WallBand := Fin 48

/-- A store band 0..63 (R1). -/
abbrev StoreBand := Fin 64

/-- A store column or row 0..511. -/
abbrev Coord := Fin 512

/-- A set of tiles, bit t for tile t (R186). -/
abbrev TileSet := BitVec 16

end Sys2Proof
end

