-- ==== Sys2Proof/Syntax.lean ====
section
/-! DEFINITION. The commands of the KL-4820, one constructor for each row of spec/opcode_table.json, in the table's order.
A command write of Table 11-3 carries no operand: its parameters are the words of the parameter FIFO (R179). -/

namespace Sys2Proof

/-- The locations of Table 11-1 at which a write is ignored: the read-only ones and the unused ones (R176). -/
inductive IgnoredLocation where
  | idVendor | idPart | idRevision | deviceStatus | result | commandStatus | windowStatus | presentStatus
  | presentRemaining | attention | attentionCount | interruptPending
  /-- 11h to 14h. -/
  | linkStatus (k : Link)
  /-- 15h to 1Fh. -/
  | unused (n : Fin 11)
  deriving DecidableEq, Repr

/-- The commands: host accesses, notices, timer expiries and engine steps. -/
inductive Instr where
  /-- HARD_RESET: nRESET falls. -/
  | hardReset
  /-- HARD_RESET_END: nRESET rises. -/
  | hardResetEnd
  /-- START_UP_CLEAR_ROW: the grant of one start-up clear row ends. -/
  | startUpClearRow
  /-- PIXEL_WRITE: the host writes PIXEL DATA. -/
  | pixelWrite (value : Word)
  /-- PIXEL_READ: the host reads PIXEL DATA. -/
  | pixelRead
  /-- WINDOW_WRITE_LANDING: the grant of a pixel write ends with the word landed. -/
  | windowWriteLanding
  /-- LATCH_LOAD: the grant of a latch load ends. -/
  | latchLoad
  /-- FILL_ROW: the grant of one FILL row ends. -/
  | fillRow
  /-- REMAP_SWEEP_PASS: the sweep passes one wall band. -/
  | remapSweepPass
  /-- WALKER_EXAMINATION: the Walker examines the position at its cursor. -/
  | walkerExamination
  /-- DISPATCH_SELECTION: the Dispatcher of a link examines its queue. -/
  | dispatchSelection (link : Link)
  /-- CAPTURE_GRANT_END: the grant a capture engine holds for a dispatch ends. -/
  | captureGrantEnd (link : Link)
  /-- TRANSMISSION_END: the transmitter of a link has sent its frame. -/
  | transmissionEnd (link : Link)
  /-- HELLO_INTERVAL: the 1 ms HELLO interval expires. -/
  | helloInterval (link : Link)
  /-- ATTEMPT_TIMEOUT: the attempt timer expires. -/
  | attemptTimeout (link : Link)
  /-- HELLO_NOTICE: a partner HELLO with a good check is taken (R104). -/
  | helloNotice (link : Link) (seen : Bool) (chainLength : BitVec 3) (capacity : Vector Nibble 4)
      (restart : Vector Nibble 4)
  /-- ACK_NOTICE: an ACK naming a sequence number is taken. -/
  | ackNotice (link : Link) (seq : SeqNo)
  /-- NAK_NOTICE: a NAK naming a sequence number is taken. -/
  | nakNotice (link : Link) (seq : SeqNo)
  /-- TILE_STATUS_NOTICE: a TILE STATUS is taken (R106). -/
  | tileStatusNotice (link : Link) (position : Position) (freed : Byte) (restart : Nibble) (shown : Byte)
  /-- REPORT_NOTICE: a REPORT is taken (R107). -/
  | reportNotice (link : Link) (position : Position) (tag : Byte) (capacity : Nibble) (shown : Byte)
      (restart : Nibble) (tileWord : BitVec 32)
  /-- IDLE_NOTICE: an IDLE notice is taken. -/
  | idleNotice (link : Link)
  /-- INVALID_NOTICE: a notice that is not valid is discarded. -/
  | invalidNotice (link : Link)
  /-- REPLAY_TIMEOUT: the replay timer expires. -/
  | replayTimeout (link : Link)
  /-- REPLAY_RETRANSMISSION: a replay retransmits the record at its replay point. -/
  | replayRetransmission (link : Link)
  /-- RE_READ_GRANT_END: the grant a capture engine holds for a re-read ends. -/
  | reReadGrantEnd (link : Link)
  /-- SILENCE_TIMEOUT: the silence timer expires. -/
  | silenceTimeout (link : Link)
  /-- QUERY_TIMEOUT: the query timeout expires. -/
  | queryTimeout
  /-- PRESENT_DEADLINE: the present deadline expires. -/
  | presentDeadline
  /-- PARAMETER_WRITE: the host writes PARAMETER. -/
  | parameterWrite (value : Word)
  /-- RESULT_READ: the host reads RESULT. -/
  | resultRead
  /-- COMMAND_STATUS_READ: the host reads COMMAND STATUS. -/
  | commandStatusRead
  /-- ATTENTION_READ: the host reads ATTENTION. -/
  | attentionRead
  /-- WRITE_MASK_WRITE: the host writes WRITE MASK. -/
  | writeMaskWrite (value : Word)
  /-- INTERRUPT_ENABLE_WRITE: the host writes INTERRUPT ENABLE. -/
  | interruptEnableWrite (value : Word)
  /-- REGISTER_WRITE: the host writes a read-only or unused location. -/
  | registerWrite (location : IgnoredLocation) (value : Word)
  /-- UNKNOWN_COMMAND: the host writes COMMAND with a code that Table 11-3 does not list. -/
  | unknownCommand (code : Word)
  /-- CONFIGURE_WALL, code 01h. -/
  | configureWall
  /-- SET_WINDOW, code 02h. -/
  | setWindow
  /-- SET_POINTER, code 03h. -/
  | setPointer
  /-- SET_MODE, code 04h. -/
  | setMode
  /-- FILL, code 05h. -/
  | fill
  /-- MAP_SET, code 06h. -/
  | mapSet
  /-- MAP_READ, code 07h. -/
  | mapRead
  /-- SET_ROLL_REGION, code 08h. -/
  | setRollRegion
  /-- ROLL, code 09h. -/
  | roll
  /-- TILE_SET, code 0Ah. -/
  | tileSet
  /-- TILE_ENABLE, code 0Bh. -/
  | tileEnable
  /-- TILE_DISABLE, code 0Ch. -/
  | tileDisable
  /-- TILE_READ, code 0Dh. -/
  | tileRead
  /-- QUERY_TILE, code 0Eh. -/
  | queryTile
  /-- QUERY_READ, code 0Fh. -/
  | queryRead
  /-- CELL_READ, code 10h. -/
  | cellRead
  /-- SET_WALKER, code 11h. -/
  | setWalker
  /-- LINK_ENABLE, code 12h. -/
  | linkEnable
  /-- LINK_DISABLE, code 13h. -/
  | linkDisable
  /-- LINK_RESET, code 14h. -/
  | linkReset
  /-- LINK_CLEAR_FLAGS, code 15h. -/
  | linkClearFlags
  /-- PRESENT, code 16h. -/
  | present
  /-- CANCEL_PRESENT, code 17h. -/
  | cancelPresent
  /-- PRESENT_READ, code 18h. -/
  | presentRead
  /-- SET_TIMER, code 19h. -/
  | setTimer
  /-- SOFT_RESET, code 1Ah. -/
  | softReset
  deriving DecidableEq, Repr

end Sys2Proof
end

