-- ==== Sys2Proof/Decode.lean ====
section
/-! DEFINITION. The command that a word spells by the bits of spec/opcode_table.json. The table gives no row any bits
(every row's "fields" is empty and none has "fixed"), so no word spells a command (assumption 24). The codes the chapters
do give, of the COMMAND location and of the notices, are read in Machine/HostBus.lean and Machine/Frames.lean. -/

namespace Sys2Proof

/-- No row of the table gives bits, so every word is refused. -/
def decodeTableWord (_nbits _w : Nat) : Option Instr := none

end Sys2Proof
end

