-- ==== Sys2Proof/Config.lean ====
section
/-! DEFINITION. What the part fixes (identification, FIFO depths, timer defaults) and the free values: the values and
orders the manual leaves open, constants without a body, so that no proof can rest on one. -/

namespace Sys2Proof.Config

/-- The word a host has on its bus after it has ended a stretched read cycle before READY rose: "delivers no defined
value" (R21). Applied to the state's counter of free values. Assumption 6. -/
opaque freeWord : Nat → Word

/-- Whether a QUERY_END joins the Attention Queue before the PRESENT_END of the same loss or TILE DISABLE: the two "may
join in either order" (R41, R170). Applied to the state's counter of free values. Assumption 13. -/
opaque queryEndFirst : Nat → Bool

/-- ID VENDOR, ID PART, ID REVISION (R177). -/
def idVendor : Word := 0x4A44
def idPart : Word := 0x4820
def idRevision : Word := 0x0001

/-- Depth of the parameter FIFO (R178). -/
def fifoDepth : Nat := 8
/-- Entries of a transmit queue (R77). -/
def queueDepth : Nat := 32
/-- Records of a hold list at which the Dispatcher selects no more (R84). -/
def holdDepth : Nat := 16
/-- Records of the Attention Queue (R168). -/
def attentionDepth : Nat := 16
/-- Bytes of the frame store: 512 × 512 pixels of two bytes (Table 1-1). -/
def storeBytes : Nat := 524288

/-- The highest code of Table 11-3; the codes 01h to 1Ah are all listed. -/
def lastCode : Nat := 26

/-- Whether Table 11-3 lists a code. The whole word is compared (assumption 20). -/
def listedCode (code : Word) : Bool := 1 ≤ code.toNat && code.toNat ≤ lastCode

end Sys2Proof.Config
end

