-- ==== Sys2Proof/Machine/State.lean ====
section
/-! DEFINITION. The state of the KL-4820 as plain data, block by block in the order of the chapters, the reasons a step can
stop, and the state after reset. IRQ, READY, the Dispatcher states, the re-read states, load pending and replay in progress
are views computed from these fields (assumption 25). -/

namespace Sys2Proof.Machine

/-- The block raises no fault: it has no exception and no stop, and every error it knows is a result code, a flag, an
attention record or a link loss. -/
inductive Fault where
  deriving DecidableEq, Repr

/-- Why a command has no outcome. -/
inductive Refusal where
  /-- Raised by the dispatcher for a command that has no meaning yet; no arm raises it. Safe: nothing is claimed. -/
  | notModelled (mnemonic : String)
  /-- Raised by the meaning of a command whose operand WellFormed refuses: such a term is no command of the block.
  Safe: nothing is claimed of it. -/
  | illFormed (mnemonic : String)
  deriving DecidableEq, Repr

/-! ## Command Unit (chapter 11) -/

/-- The result codes of Table 11-4, in the order of their values. -/
inductive ResultCode where
  | ok | busy | notReady | unknown | short | long | range | geometry | state | conflict | noTiles | tooLate
  deriving DecidableEq, Repr

/-- The Command Unit (Table 11-2). -/
structure CommandUnit where
  /-- command state: BUSY or IDLE -/
  busy : Bool
  /-- parameter FIFO, oldest first -/
  params : List Word
  /-- result FIFO, oldest first -/
  results : List Word
  lastCode : Byte
  lastResult : ResultCode
  done : Bool
  collision : Bool
  overflow : Bool
  deriving DecidableEq, Repr

/-- The timer and limit settings of Table 11-5. -/
structure TimerSettings where
  replayTimeout : Nat
  replayLimit : Nat
  silenceTimeout : Nat
  attemptTime : Nat
  attemptLimit : Nat
  presentDeadline : Nat
  queryTimeout : Nat
  deriving DecidableEq, Repr

/-- The stretched PIXEL DATA cycle the host holds, if any (R21). -/
inductive HostCycle where
  | none | stretchedWrite | stretchedRead
  deriving DecidableEq, Repr

/-- The host bus: the stretched cycle, and the word the host's last read gave it (the model's own field, assumption 5). -/
structure Bus where
  cycle : HostCycle
  data : Word
  deriving DecidableEq, Repr

/-! ## Pixel Window, Fill Engine and Store Arbiter (chapter 1) -/

/-- The order of advance (R7, R9). -/
inductive Order where
  | rows | columns
  deriving DecidableEq, Repr

/-- A rectangle of store positions. -/
structure Rect where
  x0 : Coord
  y0 : Coord
  x1 : Coord
  y1 : Coord
  deriving DecidableEq, Repr

/-- Where a latch load comes from (R12): what its end does besides filling the latch. -/
inductive LoadCause where
  | access | command | fillEnd | clearEnd
  deriving DecidableEq, Repr

/-- What the window side is doing: its one operation that waits for or holds its grant (R12, R19). -/
inductive WindowOp where
  | idle
  | pixelWrite (value : Word)
  | latchLoad (cause : LoadCause)
  | fillRow
  | clearRow
  deriving DecidableEq, Repr

/-- What waits for the window side, in the order in which it was taken: pixel accesses, window commands and the first
row of a FILL (R5, R6, R7, R12, R13). -/
inductive HeldOp where
  | pixelWrite (value : Word)
  | pixelRead
  | setWindow (rect : Rect)
  | setPointer (x y : Coord)
  | setMode (order : Order) (modify : Bool)
  | fillStart
  deriving DecidableEq, Repr

/-- The Pixel Window (Table 1-2) with the window side's operation and what waits for it. -/
structure PixelWindow where
  rect : Rect
  x : Coord
  y : Coord
  order : Order
  modify : Bool
  mask : Word
  latch : Word
  wrapped : Bool
  windowBusy : Bool
  op : WindowOp
  held : List HeldOp
  deriving DecidableEq, Repr

/-- The Fill Engine (R16, R17) and the progress of the start-up clear (R2). -/
structure FillEngine where
  running : Bool
  rect : Rect
  value : Word
  mask : Word
  /-- the row the FILL writes next -/
  row : Nat
  /-- the row the start-up clear writes next -/
  clearRow : Nat
  deriving DecidableEq, Repr

/-- Who asks the Store Arbiter: the window side or the capture engine of a link (R19). -/
inductive Requester where
  | window
  | capture (link : Link)
  deriving DecidableEq, Repr

/-- The Store Arbiter (R19, R20). -/
structure Arbiter where
  holder : Option Requester
  windowWaiting : Bool
  captureWaiting : Vector Bool 4
  lastServed : Link
  deriving DecidableEq, Repr

/-! ## Band Map (chapter 2) -/

/-- A running remap sweep: its changed set, and what it has still to pass, the head being its cursor (R33, R34). -/
structure Sweep where
  changed : List WallBand
  remaining : List WallBand
  deriving DecidableEq, Repr

/-- The Band Map (Table 2-1). A map entry is `none` for BLANK and a store band for FIXED (R24). -/
structure BandMap where
  width : Nat
  bandCount : Nat
  entries : Vector (Option StoreBand) 48
  rollFirst : Nat
  rollCount : Nat
  ringBase : Nat
  ringCount : Nat
  origin : Nat
  sweep : Option Sweep
  deriving DecidableEq, Repr

/-! ## Tile Table and Query Unit (chapter 3) -/

/-- The tile states (R39). A tile is enabled when it is not DISABLED. -/
inductive TileState where
  | disabled | waiting | active
  deriving DecidableEq, Repr

/-- A tile record (Table 3-1). -/
structure TileRecord where
  state : TileState
  link : Link
  position : Position
  firstColumn : Nat
  width : Nat
  firstBand : Nat
  bandCount : Nat
  deriving DecidableEq, Repr

/-- The outcomes of a query (Table 3-5). -/
inductive QueryOutcome where
  | none | done | timeout | lost
  deriving DecidableEq, Repr

/-- The query record (Table 3-5). The timeout is stopped, or running with the units it was started with (R51). -/
structure QueryRecord where
  waiting : Bool
  tile : TileIdx
  tag : Byte
  outcome : QueryOutcome
  capacity : Nibble
  shown : Byte
  restart : Nibble
  tileWord : BitVec 32
  timeout : Option Nat
  deriving DecidableEq, Repr

/-! ## Cell Tracker and Refresh Walker (chapter 4) -/

/-- The cell states (Table 4-1). -/
inductive CellState where
  | clean | stale | queued | inflight | inflightStale
  deriving DecidableEq, Repr

/-- A cell record (R54). -/
structure CellRecord where
  state : CellState
  marked : Bool
  deriving DecidableEq, Repr

/-- The Walker's modes (R68). -/
inductive WalkerMode where
  | auto | manual
  deriving DecidableEq, Repr

/-- The Refresh Walker (R68): its mode and its cursor. -/
structure Walker where
  mode : WalkerMode
  tile : TileIdx
  band : WallBand
  deriving DecidableEq, Repr

/-! ## Link slices (chapters 5 to 8) -/

/-- A transmit queue entry (Table 5-1). -/
inductive Entry where
  | cell (tile : TileIdx) (band : WallBand)
  | showTile (tile : TileIdx) (number : Byte)
  | query (tile : TileIdx) (tag : Byte)
  deriving DecidableEq, Repr

/-- What a hold record holds beside the common fields, by its kind (Table 5-7). -/
inductive HoldBody where
  | band (wall : WallBand) (store : StoreBand) (column : Nat) (width : Nat)
  | blank (wall : WallBand)
  | showTile (number : Byte)
  | query (tag : Byte)
  deriving DecidableEq, Repr

/-- A hold record (Table 5-7). -/
structure HoldRecord where
  seq : SeqNo
  tile : TileIdx
  position : Position
  orphan : Bool
  body : HoldBody
  deriving DecidableEq, Repr

/-- A downstream frame (Table 6-1), with the hold indication it was handed over with (R98) and, for BAND, its pixels. -/
inductive Frame where
  | hello (seen : Bool)
  | sequenced (seq : SeqNo) (position : Position) (hold : Bool) (body : HoldBody) (payload : List Word)
  deriving DecidableEq, Repr

/-- A link transmitter (R92): the frame it is sending, and whether a HELLO waits for that frame's end (R97, R115). -/
structure Transmitter where
  sending : Option Frame
  helloWaiting : Bool
  deriving DecidableEq, Repr

/-- A link's capture engine and what it works for: the selected CELL entry with the store band asked (R87), a re-read
of a held record (R126), or a read given up whose grant still runs to its end (R93, R125). -/
inductive CaptureEngine where
  | idle
  | dispatch (tile : TileIdx) (wall : WallBand) (store : StoreBand)
  | abandonedDispatch
  | reRead (seq : SeqNo)
  | givenUpReRead
  deriving DecidableEq, Repr

/-- The link states (R114). -/
inductive LinkState where
  | off | training | up | fault
  deriving DecidableEq, Repr

/-- The loss reasons (Table 7-7). -/
inductive LossReason where
  | replayLimit | silence | partnerHello | tileRestart | host
  deriving DecidableEq, Repr

/-- A chain position record (Table 8-1). -/
structure PositionRecord where
  present : Bool
  capacity : Nat
  credit : Nat
  outstanding : Nat
  lastFreed : Byte
  restart : Nibble
  shown : Byte
  shownValid : Bool
  deriving DecidableEq, Repr

/-- One link slice: the Link Engine (Table 7-1), the transmit queue and show backlog (R77, R80), the capture engine of
its Dispatcher and re-reads (R83, R126), its transmitter, its receiver and its four chain position records (R138). A timer is
stopped, or running with the units it last started with (R136). A replay is in progress when there is a replay point. -/
structure LinkSlice where
  state : LinkState
  partnerHeard : Bool
  attemptCount : Nat
  attemptTimer : Option Nat
  helloInterval : Bool
  nextSeq : SeqNo
  hold : List HoldRecord
  replayPoint : Option SeqNo
  replayCount : Nat
  replayTimer : Option Nat
  silenceTimer : Option Nat
  stray : Bool
  badNotice : Bool
  creditExcess : Bool
  queue : List Entry
  backlog : List Entry
  engine : CaptureEngine
  tx : Transmitter
  /-- the notice in progress: the bytes received since its START, if the receiver is assembling one (R101, R188) -/
  receiving : Option (List Byte)
  positions : Vector PositionRecord 4
  deriving DecidableEq, Repr

/-! ## Present Unit (chapter 9) -/

/-- The present states (R150). -/
inductive PresentState where
  | idle | collecting | showing
  deriving DecidableEq, Repr

/-- The present outcomes (Table 9-1). -/
inductive PresentOutcome where
  | none | done | partially | failed | timeout | cancelled | reset
  deriving DecidableEq, Repr

/-- The present record (Table 9-1). The deadline is stopped, or running with the units it was started with (R161). -/
structure PresentRecord where
  state : PresentState
  number : Byte
  participants : TileSet
  shown : TileSet
  remaining : Nat
  deadline : Option Nat
  outcome : PresentOutcome
  deriving DecidableEq, Repr

/-! ## Attention Queue (chapter 10) -/

/-- Whom a CREDIT_EXCESS names: the enabled tile at the position, or the position (R145, note 3 of Table 10-2). -/
inductive ExcessSubject where
  | tile (t : TileIdx)
  | position (p : Position)
  deriving DecidableEq, Repr

/-- The event of an attention record with the fields its kind holds (Table 10-2). -/
inductive AttentionEvent where
  | linkUp (link : Link)
  | linkLost (link : Link) (reason : LossReason)
  | linkFault (link : Link) (count : Nat)
  | tileJoined (link : Link) (tile : TileIdx)
  | tileMissing (link : Link) (tile : TileIdx) (position : Position)
  | presentEnd (outcome : PresentOutcome) (number : Byte) (tile : Option TileIdx) (shown : Option TileSet)
  | queryEnd (link : Link) (tile : TileIdx) (outcome : QueryOutcome) (tag : Byte)
  | creditExcess (link : Link) (subject : ExcessSubject)
  deriving DecidableEq, Repr

/-- An attention record: its event and its gap mark (R169). -/
structure AttentionRecord where
  event : AttentionEvent
  gap : Bool
  deriving DecidableEq, Repr

/-- The Attention Queue, its read-out and the interrupt enables (Table 10-1). -/
structure Attention where
  records : List AttentionRecord
  gapFlag : Bool
  readOut : List Word
  attentionEnable : Bool
  doneEnable : Bool
  deriving DecidableEq, Repr

/-! ## The whole block -/

/-- The state of the block. `pending` is the queue of waiting commands; `freeCount` is the model's counter that the free
values of Config are applied to (assumption 13). -/
structure State where
  /-- the level of nRESET: true when high -/
  nReset : Bool
  /-- device NOT_READY (R2) -/
  notReady : Bool
  bus : Bus
  cu : CommandUnit
  timers : TimerSettings
  window : PixelWindow
  fill : FillEngine
  /-- the frame store's bytes, in canonical form; an unlisted byte reads 0 (Machine/Memory.lean) -/
  store : List Host.Cell
  arbiter : Arbiter
  map : BandMap
  tiles : Vector TileRecord 16
  query : QueryRecord
  cells : Vector (Vector CellRecord 48) 16
  walker : Walker
  links : Vector LinkSlice 4
  present : PresentRecord
  attention : Attention
  freeCount : Nat
  pending : List Instr
  deriving DecidableEq, Repr

/-! ## Reset values -/

/-- Table 11-5's defaults. -/
def TimerSettings.default : TimerSettings where
  replayTimeout := 20
  replayLimit := 4
  silenceTimeout := 25
  attemptTime := 50
  attemptLimit := 3
  presentDeadline := 1000
  queryTimeout := 10

/-- Table 8-1, after hard reset. -/
def PositionRecord.hardReset : PositionRecord where
  present := false
  capacity := 0
  credit := 0
  outstanding := 0
  lastFreed := 0
  restart := 0
  shown := 0
  shownValid := false

/-- Table 7-1 with the queue, Dispatcher and transmitter of chapter 5, after hard reset. -/
def LinkSlice.hardReset : LinkSlice where
  state := .off
  partnerHeard := false
  attemptCount := 0
  attemptTimer := none
  helloInterval := false
  nextSeq := 0
  hold := []
  replayPoint := none
  replayCount := 0
  replayTimer := none
  silenceTimer := none
  stray := false
  badNotice := false
  creditExcess := false
  queue := []
  backlog := []
  engine := .idle
  tx := ⟨none, false⟩
  receiving := none
  positions := Vector.replicate 4 .hardReset

/-- Table 3-1, after hard reset. -/
def TileRecord.hardReset : TileRecord where
  state := .disabled
  link := 0
  position := 0
  firstColumn := 0
  width := 0
  firstBand := 0
  bandCount := 0

/-- R54: after a hard reset every record is STALE and unmarked. -/
def CellRecord.hardReset : CellRecord := ⟨.stale, false⟩

/-- Table 2-1, after hard reset. -/
def BandMap.hardReset : BandMap where
  width := 0
  bandCount := 0
  entries := Vector.replicate 48 none
  rollFirst := 0
  rollCount := 0
  ringBase := 0
  ringCount := 1
  origin := 0
  sweep := none

/-- Table 1-2, after hard reset. -/
def PixelWindow.hardReset : PixelWindow where
  rect := ⟨0, 0, 511, 511⟩
  x := 0
  y := 0
  order := .rows
  modify := false
  mask := 0xFFFF
  latch := 0
  wrapped := false
  windowBusy := false
  op := .idle
  held := []

/-- Every block at its hard-reset values, nRESET low: the part from nRESET falling until it rises. The Fill Engine's
rectangle, value and mask copy have no stated value (assumption 33), nor has the store's content (assumption 7). -/
def State.inReset : State where
  nReset := false
  notReady := true
  bus := ⟨.none, 0⟩
  cu := ⟨false, [], [], 0x00, .ok, false, false, false⟩
  timers := .default
  window := .hardReset
  fill := ⟨false, ⟨0, 0, 0, 0⟩, 0, 0, 0, 0⟩
  store := []
  arbiter := ⟨none, false, Vector.replicate 4 false, 3⟩
  map := .hardReset
  tiles := Vector.replicate 16 .hardReset
  query := ⟨false, 0, 0, .none, 0, 0, 0, 0, none⟩
  cells := Vector.replicate 16 (Vector.replicate 48 .hardReset)
  walker := ⟨.auto, 0, 0⟩
  links := Vector.replicate 4 .hardReset
  present := ⟨.idle, 0, 0, 0, 0, none, .none⟩
  attention := ⟨[], false, [], false, false⟩
  freeCount := 0
  pending := []

/-- The machine right after reset: the hard-reset values at the instant nRESET has risen, when the device is NOT_READY and
the start-up clear has its grant for row 0 (R2; assumption 23). -/
def State.reset : State :=
  { State.inReset with
    nReset := true
    window.op := .clearRow
    arbiter.holder := some .window }

end Sys2Proof.Machine
end

