-- ==== Sys2Proof/Machine/Memory.lean ====
section
/-! DEFINITION. The frame store (R1): its bytes, its pixels, its rows and its segments, over the canonical byte list of
State. A pixel takes two bytes, the high one first (assumption 8). -/

namespace Sys2Proof.Machine

/-- What a byte that the list does not name reads as: 0, the content after the start-up clear (R1; assumption 7). -/
def Memory.unlisted : Byte := 0

/-- The canonical form: addresses of the store, strictly rising, no byte equal to what an unlisted one reads as. -/
def Memory.wf : List Host.Cell → Bool
  | [] => true
  | (a, v) :: rest =>
    decide (a < Config.storeBytes) && v != Memory.unlisted && rest.all (fun b => decide (a < b.1)) && Memory.wf rest

/-- The byte at an address. -/
def Memory.readByte : List Host.Cell → Nat → Byte
  | [], _ => Memory.unlisted
  | (b, v) :: rest, a => if a = b then v else Memory.readByte rest a

/-- Writes one byte and keeps the canonical form; an address outside the store is not there to be written. -/
def Memory.writeByte (m : List Host.Cell) (a : Nat) (v : Byte) : List Host.Cell :=
  if a < Config.storeBytes then put m else m
where
  /-- Puts the byte in its place of the list, or takes the place out when the byte is the unlisted one. -/
  put : List Host.Cell → List Host.Cell
    | [] => if v = Memory.unlisted then [] else [(a, v)]
    | (b, u) :: rest =>
      if a < b then (if v = Memory.unlisted then (b, u) :: rest else (a, v) :: (b, u) :: rest)
      else if a = b then (if v = Memory.unlisted then rest else (a, v) :: rest)
      else (b, u) :: put rest

/-- The byte address of the pixel at (x, y): rows of 512 pixels, two bytes each. -/
def Memory.pixelAddress (x y : Coord) : Nat := 2 * (512 * y.val + x.val)

/-- The pixel at (x, y). -/
def Memory.pixel (m : List Host.Cell) (x y : Coord) : Word :=
  Memory.readByte m (Memory.pixelAddress x y) ++ Memory.readByte m (Memory.pixelAddress x y + 1)

/-- Stores a whole pixel at (x, y). -/
def Memory.setPixel (m : List Host.Cell) (x y : Coord) (v : Word) : List Host.Cell :=
  Memory.writeByte (Memory.writeByte m (Memory.pixelAddress x y) (v.extractLsb' 8 8))
    (Memory.pixelAddress x y + 1) (v.extractLsb' 0 8)

/-- A word through a mask: each bit the mask selects from the new word, the others from the old one (R10). -/
def maskedWord (mask old new : Word) : Word := (new &&& mask) ||| (old &&& ~~~mask)

/-- One masked pixel write (R10, R17). -/
def Memory.writePixel (m : List Host.Cell) (mask : Word) (x y : Coord) (v : Word) : List Host.Cell :=
  Memory.setPixel m x y (maskedWord mask (Memory.pixel m x y) v)

/-- The columns x0 to x1, ascending. -/
def columnsOf (x0 x1 : Coord) : List Coord :=
  (List.finRange 512).filter fun x => decide (x0 ≤ x) && decide (x ≤ x1)

/-- Writes one value through a mask into the columns x0 to x1 of one row (R2, R17). -/
def Memory.writeRow (m : List Host.Cell) (mask : Word) (x0 x1 y : Coord) (v : Word) : List Host.Cell :=
  (columnsOf x0 x1).foldl (fun m x => Memory.writePixel m mask x y v) m

/-- The store band that holds row y (R1). -/
def bandOfRow (y : Coord) : StoreBand := Fin.ofNat 64 (y.val / 8)

/-- The segment of a store band: its eight rows from the first, each from the first column upward (R99). -/
def Memory.segment (m : List Host.Cell) (b : StoreBand) (column width : Nat) : List Word :=
  (List.range 8).flatMap fun r =>
    (List.range width).map fun i => Memory.pixel m (Fin.ofNat 512 (column + i)) (Fin.ofNat 512 (8 * b.val + r))

end Sys2Proof.Machine
end

