-- ==== Sys2Proof/Machine/Operands.lean ====
section
/-! DEFINITION. The operands of commands and the fields of words: the parameters of a taken command (R179), sets of tiles
and packed words (R185, R186), and the numeric codes of states and results. -/

namespace Sys2Proof.Machine

/-- Parameter i of a command, as an unsigned number (note 2 of Table 11-3: checked as a whole word). -/
def param (ps : List Word) (i : Nat) : Nat := (ps.getD i 0).toNat

/-- Parameter i as a 16-bit word. -/
def paramWord (ps : List Word) (i : Nat) : Word := ps.getD i 0

/-- Parameter i as a tile index, once its range has been checked. -/
def paramTile (ps : List Word) (i : Nat) : TileIdx := Fin.ofNat 16 (param ps i)

/-- Parameter i as a link, once its range has been checked. -/
def paramLink (ps : List Word) (i : Nat) : Link := Fin.ofNat 4 (param ps i)

/-- Parameter i as a store column or row, once its range has been checked. -/
def paramCoord (ps : List Word) (i : Nat) : Coord := Fin.ofNat 512 (param ps i)

/-- A field of a packed word: a number in `width` bits from bit `lo` up (R185). -/
def field (lo width v : Nat) : Word := BitVec.ofNat 16 (v % 2 ^ width * 2 ^ lo)

/-- A one-bit field. -/
def flag (lo : Nat) (b : Bool) : Word := field lo 1 b.toNat

/-- A word of several fields. -/
def pack (fields : List Word) : Word := fields.foldl (· ||| ·) 0

/-- A word that holds one unsigned number. -/
def numWord (v : Nat) : Word := BitVec.ofNat 16 v

/-- Whether tile t is in a set. -/
def TileSet.has (S : TileSet) (t : TileIdx) : Bool := S.getLsbD t.val

/-- The set of the tiles that satisfy p. -/
def TileSet.of (p : TileIdx → Bool) : TileSet := BitVec.ofFnLE p

/-- A set with tile t added. -/
def TileSet.add (S : TileSet) (t : TileIdx) : TileSet := TileSet.of fun u => u == t || TileSet.has S u

/-- Table 11-4. -/
def ResultCode.code : ResultCode → Nat
  | .ok => 0 | .busy => 1 | .notReady => 2 | .unknown => 3 | .short => 4 | .long => 5
  | .range => 6 | .geometry => 7 | .state => 8 | .conflict => 9 | .noTiles => 10 | .tooLate => 11

/-- R46, word 1. -/
def TileState.code : TileState → Nat
  | .disabled => 0 | .waiting => 1 | .active => 2

/-- R53, word 1. -/
def QueryOutcome.code : QueryOutcome → Nat
  | .none => 0 | .done => 1 | .timeout => 2 | .lost => 3

/-- R76, word 1. -/
def CellState.code : CellState → Nat
  | .clean => 0 | .stale => 1 | .queued => 2 | .inflight => 3 | .inflightStale => 4

/-- R76, word 3. -/
def WalkerMode.code : WalkerMode → Nat
  | .auto => 0 | .manual => 1

/-- Table 11-6. -/
def PresentState.code : PresentState → Nat
  | .idle => 0 | .collecting => 1 | .showing => 2

/-- Table 11-6. -/
def PresentOutcome.code : PresentOutcome → Nat
  | .none => 0 | .done => 1 | .partially => 2 | .failed => 3 | .timeout => 4 | .cancelled => 5 | .reset => 6

/-- Table 11-6. -/
def LinkState.code : LinkState → Nat
  | .off => 0 | .training => 1 | .up => 2 | .fault => 3

/-- R187. -/
def LossReason.code : LossReason → Nat
  | .replayLimit => 1 | .silence => 2 | .partnerHello => 3 | .tileRestart => 4 | .host => 5

end Sys2Proof.Machine
end

