-- ==== Sys2Proof/Machine/Ops.lean ====
section
/-! DEFINITION. The named operations every family shares: reads and updates of one link slice, tile, cell or position,
the host's access, the Store Arbiter (R19, R20) and the appending of attention records (R170). -/

namespace Sys2Proof.Machine

/-! ## One link, tile, cell, position -/

/-- The slice of link k. -/
def State.link (s : State) (k : Link) : LinkSlice := s.links[k]

/-- Replaces the slice of link k. -/
def State.setLink (s : State) (k : Link) (l : LinkSlice) : State := { s with links := s.links.set k l }

/-- Changes the slice of link k by f. -/
def State.updateLink (s : State) (k : Link) (f : LinkSlice → LinkSlice) : State := s.setLink k (f (s.link k))

/-- The record of tile t. -/
def State.tile (s : State) (t : TileIdx) : TileRecord := s.tiles[t]

/-- Replaces the record of tile t. -/
def State.setTile (s : State) (t : TileIdx) (r : TileRecord) : State := { s with tiles := s.tiles.set t r }

/-- The record of cell (t, w). -/
def State.cell (s : State) (t : TileIdx) (w : WallBand) : CellRecord := (s.cells[t])[w]

/-- Replaces the record of cell (t, w). -/
def State.setCell (s : State) (t : TileIdx) (w : WallBand) (c : CellRecord) : State :=
  { s with cells := s.cells.set t ((s.cells[t]).set w c) }

/-- Changes every cell record at one instant: the record of (t, w) becomes f t w of itself. -/
def State.mapCells (s : State) (f : TileIdx → WallBand → CellRecord → CellRecord) : State :=
  { s with cells := Vector.ofFn fun t => Vector.ofFn fun w => f t w (s.cell t w) }

/-- The record of position p of a link. -/
def LinkSlice.position (l : LinkSlice) (p : Position) : PositionRecord := l.positions[p]

/-- Replaces the record of position p of a link. -/
def LinkSlice.setPosition (l : LinkSlice) (p : Position) (r : PositionRecord) : LinkSlice :=
  { l with positions := l.positions.set p r }

/-- Whether a tile is enabled (R39: a record is DISABLED exactly when it is not enabled). -/
def TileRecord.enabled (r : TileRecord) : Bool := r.state != .disabled

/-- Whether a tile is ACTIVE. -/
def TileRecord.isActive (r : TileRecord) : Bool := r.state == .active

/-- Whether a wall band lies in a tile's band range (R38, R54). -/
def TileRecord.hasBand (r : TileRecord) (w : WallBand) : Bool :=
  decide (r.firstBand ≤ w.val) && decide (w.val < r.firstBand + r.bandCount)

/-! ## The host's access (R21, R176) -/

/-- The end of the cycle the host holds, which a new access implies and `State.hostEndsCycle` is alone. A PIXEL DATA cycle still
stretched has been ended early: a read so ended delivers no defined value, which is a free value (R21; assumption 6). -/
def State.hostAccess (s : State) : State :=
  match s.bus.cycle with
  | .none => s
  | .stretchedWrite => { s with bus.cycle := .none }
  | .stretchedRead => { s with bus := ⟨.none, Config.freeWord s.freeCount⟩, freeCount := s.freeCount + 1 }

/-- The host's read gives it a word. -/
def State.deliver (s : State) (w : Word) : State := { s with bus.data := w }

/-- An event of the running part. While nRESET is low the part holds its hard-reset values and takes no event but the
rise of nRESET (assumption 3). -/
def State.event (s : State) (f : State → State) : Host.Outcome State Fault Refusal :=
  .next (if s.nReset then f s else s)

/-- An access of the host to the running part. -/
def State.access (s : State) (f : State → State) : Host.Outcome State Fault Refusal :=
  s.event fun s => f s.hostAccess

/-! ## Store Arbiter (R19, R20) -/

/-- The first capture engine waiting in the order last served + 1 to last served + 4. -/
def Arbiter.nextCapture (a : Arbiter) : Option Link :=
  [a.lastServed + 1, a.lastServed + 2, a.lastServed + 3, a.lastServed].find? fun k => a.captureWaiting[k]

/-- Gives the store to a requester; a capture engine granted becomes the last served (assumption 9). -/
def Arbiter.grant (a : Arbiter) : Requester → Arbiter
  | .window => { a with holder := some .window, windowWaiting := false }
  | .capture k =>
    { a with holder := some (.capture k), captureWaiting := a.captureWaiting.set k false, lastServed := k }

/-- Puts a request among those waiting. -/
def Arbiter.await (a : Arbiter) : Requester → Arbiter
  | .window => { a with windowWaiting := true }
  | .capture k => { a with captureWaiting := a.captureWaiting.set k true }

/-- A request arrives: granted at once when the store is idle and nothing waits, and otherwise it waits (R19). -/
def Arbiter.request (a : Arbiter) (r : Requester) : Arbiter :=
  if a.holder.isNone && !a.windowWaiting && a.nextCapture.isNone then a.grant r else a.await r

/-- A grant ends and the next holder is chosen from the requests waiting (R20, Table 1-6). -/
def Arbiter.release (a : Arbiter) : Arbiter :=
  let afterCapture := match a.holder with
    | some (.capture _) => true
    | _ => false
  if afterCapture && a.windowWaiting then a.grant .window
  else match a.nextCapture with
    | some k => a.grant (.capture k)
    | none => if a.windowWaiting then a.grant .window else { a with holder := none }

/-- Takes the waiting request of a capture engine back (R93, R125). -/
def Arbiter.withdraw (a : Arbiter) (k : Link) : Arbiter :=
  { a with captureWaiting := a.captureWaiting.set k false }

/-- A requester asks for the store. -/
def State.request (s : State) (r : Requester) : State := { s with arbiter := s.arbiter.request r }

/-- The grant held ends. -/
def State.releaseGrant (s : State) : State := { s with arbiter := s.arbiter.release }

/-- Whether a requester holds the grant. -/
def State.holds (s : State) (r : Requester) : Bool := s.arbiter.holder == some r

/-! ## Attention records (R170) -/

/-- A record joins the tail with the gap mark the gap flag gives it, or is discarded at a full queue and sets the flag. -/
def Attention.append (a : Attention) (e : AttentionEvent) : Attention :=
  if a.records.length < Config.attentionDepth then
    { a with records := a.records ++ [⟨e, a.gapFlag⟩], gapFlag := false }
  else { a with gapFlag := true }

/-- A block writes an attention record. -/
def State.attend (s : State) (e : AttentionEvent) : State := { s with attention := s.attention.append e }

end Sys2Proof.Machine
end

