-- ==== Sys2Proof/Machine/Flags.lean ====
section
/-! DEFINITION. The sticky flags (R103), the views of pins and states that other chapters define from the fields of State
(IRQ, READY, load pending, the Walker's running, Dispatcher and re-read states), and each link's three flags. -/

namespace Sys2Proof.Machine

/-- Sets the stray acknowledgement flag of a link (R103). -/
def LinkSlice.setStray (l : LinkSlice) : LinkSlice := { l with stray := true }

/-- Sets the bad-notice flag of a link (R102, R103). -/
def LinkSlice.setBadNotice (l : LinkSlice) : LinkSlice := { l with badNotice := true }

/-- Clears the three sticky flags of a link (R135). -/
def LinkSlice.clearFlags (l : LinkSlice) : LinkSlice :=
  { l with stray := false, badNotice := false, creditExcess := false }

/-- The attention source is pending while the queue holds a record (R174). -/
def State.attentionPending (s : State) : Bool := !s.attention.records.isEmpty

/-- The command-done source is pending while the command-done flag is set (R174). -/
def State.donePending (s : State) : Bool := s.cu.done

/-- IRQ (R175). -/
def State.irq (s : State) : Bool :=
  s.attentionPending && s.attention.attentionEnable || s.donePending && s.attention.doneEnable

/-- READY: low while a PIXEL DATA cycle is stretched (R21). -/
def State.ready (s : State) : Bool := s.bus.cycle == .none

/-- Load pending (R12, Table 1-2): the window side has a latch load to do. -/
def State.loadPending (s : State) : Bool :=
  match s.window.op with
  | .latchLoad _ => true
  | _ => false

/-- Whether the Walker runs (R70): always in AUTO mode, in MANUAL mode while a present is COLLECTING. -/
def State.walkerRunning (s : State) : Bool := s.walker.mode == .auto || s.present.state == .collecting

/-- The states of a Dispatcher and of a re-read (R83, R113). -/
inductive ReadState where
  | idle | storeWait | storeRead
  deriving DecidableEq, Repr

/-- The Dispatcher's state (Table 5-3): an abandoned read leaves it in STORE_READ until its grant ends (R93). -/
def State.dispatcherState (s : State) (k : Link) : ReadState :=
  match (s.link k).engine with
  | .dispatch .. => if s.holds (.capture k) then .storeRead else .storeWait
  | .abandonedDispatch => .storeRead
  | .idle | .reRead _ | .givenUpReRead => .idle

/-- The re-read's state (Table 7-1). -/
def State.reReadState (s : State) (k : Link) : ReadState :=
  match (s.link k).engine with
  | .reRead _ => if s.holds (.capture k) then .storeRead else .storeWait
  | .givenUpReRead => .storeRead
  | .idle | .dispatch .. | .abandonedDispatch => .idle

/-- Replay in progress (R113). -/
def LinkSlice.replaying (l : LinkSlice) : Bool := l.replayPoint.isSome

end Sys2Proof.Machine
end

