-- ==== Sys2Proof/Machine/CommandUnit.lean ====
section
/-! DEFINITION. The Command Unit (chapter 11): the taking of a command with its first four checks (R179), collisions (R180)
and the end of a command (R181). Every command write is one call of `State.command`. -/

namespace Sys2Proof.Machine

/-- A command written while the unit is BUSY is not taken and sets the collision flag (R180). -/
def State.collide (s : State) : State := { s with cu.collision := true }

/-- The unit takes a command: the whole parameter FIFO, an empty result FIFO, the overflow flag cleared after it was read,
the code recorded, BUSY (R179). -/
def State.takeCommand (s : State) (code : Byte) : State :=
  { s with cu := { s.cu with params := [], results := [], overflow := false, lastCode := code, busy := true } }

/-- A taken command ends: its result words, its result code, command done, IDLE (R181). -/
def State.finish (s : State) (r : ResultCode) (words : List Word) : State :=
  { s with cu := { s.cu with results := words, lastResult := r, done := true, busy := false } }

/-- A taken command completes OK. -/
def State.complete (s : State) (words : List Word) : State := s.finish .ok words

/-- A taken command is refused: it returns no result words (R179). -/
def State.refuse (s : State) (r : ResultCode) : State := s.finish r []

/-- A command write of a listed code (R179, R180): a collision while BUSY; otherwise the command is taken with the words
of the parameter FIFO, checks 2 to 4 are made in their order, and the command's own rule follows. -/
def State.command (s : State) (code : Byte) (nparams : Nat) (body : List Word → State → State) : State :=
  if s.cu.busy then s.collide
  else
    let taken := s.takeCommand code
    if s.cu.overflow then taken.refuse .long
    else if s.cu.params.length < nparams then taken.refuse .short
    else if nparams < s.cu.params.length then taken.refuse .long
    else if s.notReady then taken.refuse .notReady
    else body s.cu.params taken

/-- A host write of a command code to COMMAND. -/
def State.commandWrite (s : State) (code : Byte) (nparams : Nat) (body : List Word → State → State) :
    Host.Outcome State Fault Refusal :=
  s.access fun s => s.command code nparams body

end Sys2Proof.Machine
end

