-- ==== Sys2Proof/Machine/Cells.lean ====
section
/-! DEFINITION. The Cell Tracker (chapter 4): Table 4-2 and the events of one cell or of all the cells a cause reaches. An
event marked by a dash in Table 4-2 cannot reach a cell in that state (R64); here it leaves the state (assumption 15). -/

namespace Sys2Proof.Machine

/-- Events W and M (R58, R59): the columns W and M of Table 4-2 are alike. -/
def CellState.onChange : CellState → CellState
  | .clean => .stale
  | .stale => .stale
  | .queued => .queued
  | .inflight => .inflightStale
  | .inflightStale => .inflightStale

/-- Event Q (R60). -/
def CellState.onQueue : CellState → CellState
  | .stale => .queued
  | c => c

/-- Event C (R61). -/
def CellState.onCapture : CellState → CellState
  | .queued => .inflight
  | c => c

/-- Event A (R62). -/
def CellState.onAck : CellState → CellState
  | .inflight => .clean
  | .inflightStale => .stale
  | c => c

/-- W or M on a cell record: the mark stays (R58, R59). -/
def CellRecord.change (r : CellRecord) : CellRecord := { r with state := r.state.onChange }

/-- F on a cell record: STALE and unmarked from every state (R63). -/
def CellRecord.fail (_ : CellRecord) : CellRecord := ⟨.stale, false⟩

/-- Q for one cell. -/
def State.queueCell (s : State) (t : TileIdx) (w : WallBand) : State :=
  s.setCell t w { s.cell t w with state := (s.cell t w).state.onQueue }

/-- C for one cell. -/
def State.captureCell (s : State) (t : TileIdx) (w : WallBand) : State :=
  s.setCell t w { s.cell t w with state := (s.cell t w).state.onCapture }

/-- A for one cell, without its report to the Present Unit: a cell that becomes CLEAN loses its mark (R62). -/
def State.ackCell (s : State) (t : TileIdx) (w : WallBand) : State :=
  let c := s.cell t w
  s.setCell t w ⟨c.state.onAck, c.marked && c.state != .inflight⟩

/-- Whether A on this record makes it CLEAN and clears a mark, which is reported to the Present Unit (R62). -/
def CellRecord.ackReports (r : CellRecord) : Bool := r.state == .inflight && r.marked

/-- F for every cell of the tiles of a list (R41, R63). -/
def State.failTiles (s : State) (ts : List TileIdx) : State :=
  s.mapCells fun t w c => if ts.contains t && (s.tile t).hasBand w then c.fail else c

/-- F for the cells of the CELL entries of a list (R63, Table 5-2). -/
def State.failEntries (s : State) (es : List Entry) : State :=
  s.mapCells fun t w c => if es.contains (.cell t w) then c.fail else c

/-- The end of a present from COLLECTING clears every mark (R65, R158). -/
def State.clearMarks (s : State) : State := s.mapCells fun _ _ c => { c with marked := false }

/-- Whether a cell of a participant is marked at a cut: a cell of its tile that is not CLEAN (R153). -/
def State.marksAtCut (s : State) (participants : TileSet) (t : TileIdx) (w : WallBand) : Bool :=
  TileSet.has participants t && (s.tile t).hasBand w && (s.cell t w).state != .clean

/-- The number of cells a cut marks (R153). -/
def State.markCount (s : State) (participants : TileSet) : Nat :=
  ((List.finRange 16).map fun t => (List.finRange 48).countP fun w => s.marksAtCut participants t w).sum

/-- The marks of a cut (R153). -/
def State.setMarks (s : State) (participants : TileSet) : State :=
  s.mapCells fun t w c => if s.marksAtCut participants t w then { c with marked := true } else c

end Sys2Proof.Machine
end

