-- ==== Sys2Proof/Machine/Map.lean ====
section
/-! DEFINITION. The Band Map (chapter 2): resolution (R26), the reverse lookup and the W events of a written notification
(R27, R66), map commands and the remap sweep (R28, R33, R34). -/

namespace Sys2Proof.Machine

/-- Whether the roll region covers a wall band (R26). -/
def BandMap.inRegion (m : BandMap) (w : WallBand) : Bool :=
  m.rollCount != 0 && decide (m.rollFirst ≤ w.val) && decide (w.val < m.rollFirst + m.rollCount)

/-- The resolved source of a wall band: `none` for BLANK, or a store band (R26). -/
def BandMap.resolve (m : BandMap) (w : WallBand) : Option StoreBand :=
  if m.inRegion w then some (Fin.ofNat 64 (m.ringBase + (m.origin + w.val - m.rollFirst) % m.ringCount))
  else m.entries[w]

/-- The changed set of a map command (R33): the wall bands below the band count whose resolved sources differ, ascending. -/
def BandMap.changedSet (before after : BandMap) : List WallBand :=
  (List.finRange 48).filter fun w => decide (w.val < after.bandCount) && before.resolve w != after.resolve w

/-- Whether a wall band is reached by a notification of a store band (R27). -/
def BandMap.reached (m : BandMap) (b : StoreBand) (w : WallBand) : Bool :=
  decide (w.val < m.bandCount) && m.resolve w == some b

/-- Whether a tile's column span has a column in common with the wall span of a notification: its columns from `first`
on, `count` of them, clipped to the wall (R27, R66). The wall span is empty when `first` is at or beyond the width. -/
def BandMap.spanMeets (m : BandMap) (first count : Nat) (r : TileRecord) : Bool :=
  decide (first < m.width) && decide (first ≤ r.firstColumn + r.width - 1) &&
    decide (r.firstColumn ≤ min (first + count - 1) (m.width - 1))

/-- Whether a written notification hands W to cell (t, w) (R27, R66): the wall band shows the store band, the tile is
ACTIVE, covers the wall band and shares a column with the wall span. -/
def State.writeReaches (s : State) (b : StoreBand) (first count : Nat) (t : TileIdx) (w : WallBand) : Bool :=
  s.map.reached b w && (s.tile t).isActive && (s.tile t).hasBand w && s.map.spanMeets first count (s.tile t)

/-- A written notification is accepted (R15, R27, R66): W for every cell it reaches. The cells are separate records, so
the order of the W events cannot be seen (R57). -/
def State.notify (s : State) (b : StoreBand) (first count : Nat) : State :=
  s.mapCells fun t w c => if s.writeReaches b first count t w then c.change else c

/-- The sweep passes wall band w: M for every ACTIVE tile that covers it (R34). -/
def State.sweepBand (s : State) (w : WallBand) : State :=
  s.mapCells fun t v c => if v == w && (s.tile t).isActive && (s.tile t).hasBand w then c.change else c

/-- A map command is taken (R28): the new map at once; an empty changed set completes OK at once, any other starts the
sweep and holds the unit BUSY. -/
def State.mapCommand (s : State) (m : BandMap) : State :=
  match s.map.changedSet m with
  | [] => ({ s with map := m } : State).complete []
  | ws => { s with map := { m with sweep := some ⟨ws, ws⟩ } }

/-- One pass of the sweep; after the last wall band the map command completes OK (R34). -/
def State.sweepPass (s : State) : State :=
  match s.map.sweep with
  | some ⟨changed, w :: rest⟩ =>
    let s := s.sweepBand w
    if rest.isEmpty then ({ s with map.sweep := none } : State).complete []
    else { s with map.sweep := some ⟨changed, rest⟩ }
  | _ => s

end Sys2Proof.Machine
end

