-- ==== Sys2Proof/Machine/Window.lean ====
section
/-! DEFINITION. The window side (chapter 1): the advance of the pointer (R9), the one operation of the window side and what
waits for it (R12), and the ends of its grants (R10, R12, R17, R2). -/

namespace Sys2Proof.Machine

/-- The coordinate after c. -/
def nextCoord (c : Coord) : Coord := Fin.ofNat 512 (c.val + 1)

/-- One advance of the pointer (R9). -/
def PixelWindow.advance (w : PixelWindow) : PixelWindow :=
  match w.order with
  | .rows =>
    if w.x.val + 1 ≤ w.rect.x1.val then { w with x := nextCoord w.x }
    else if w.y.val + 1 ≤ w.rect.y1.val then { w with x := w.rect.x0, y := nextCoord w.y }
    else { w with x := w.rect.x0, y := w.rect.y0, wrapped := true }
  | .columns =>
    if w.y.val + 1 ≤ w.rect.y1.val then { w with y := nextCoord w.y }
    else if w.x.val + 1 ≤ w.rect.x1.val then { w with y := w.rect.y0, x := nextCoord w.x }
    else { w with y := w.rect.y0, x := w.rect.x0, wrapped := true }

/-- Whether a held operation is a pixel access of the host. -/
def HeldOp.isAccess : HeldOp → Bool
  | .pixelWrite _ | .pixelRead => true
  | .setWindow _ | .setPointer .. | .setMode .. | .fillStart => false

/-- A pixel access has been carried out, `rest` being what is still held: the stretched cycle is that of the access taken
last, so it completes, and READY rises, only when no later access is held. -/
def State.endCycle (s : State) (rest : List HeldOp) (c : HostCycle) : State :=
  if s.bus.cycle = c ∧ ¬ rest.any HeldOp.isAccess then { s with bus.cycle := .none } else s

/-- A pixel read gives the host the latch (R11). A read whose cycle the host has ended delivers nothing (R21). -/
def State.readLatch (s : State) (rest : List HeldOp) : State :=
  if s.bus.cycle = .stretchedRead ∧ ¬ rest.any HeldOp.isAccess then
    { s with bus := ⟨.none, s.window.latch⟩ } else s

/-- The window side takes an operation and asks for its grant (R19). -/
def State.startWindowOp (s : State) (op : WindowOp) : State :=
  ({ s with window.op := op } : State).request .window

/-- The window side, having nothing to do, carries out what is held in the order in which it was taken, up to the first
operation that needs a grant (R5, R6, R7, R10, R11, R12, R17). -/
def State.runHeld : List HeldOp → State → State
  | [], s => { s with window.op := .idle, window.held := [] }
  | .pixelWrite v :: rest, s => ({ s with window.held := rest } : State).startWindowOp (.pixelWrite v)
  | .pixelRead :: rest, s =>
    let s := s.readLatch rest
    if s.window.modify then State.runHeld rest s
    else ({ s with window := { s.window.advance with held := rest } } : State).startWindowOp (.latchLoad .access)
  | .setWindow r :: rest, s =>
    ({ s with window := { s.window with
        rect := r, x := r.x0, y := r.y0, wrapped := false, windowBusy := false, held := rest } } :
      State).startWindowOp (.latchLoad .command)
  | .setPointer x y :: rest, s =>
    ({ s with window := { s.window with x := x, y := y, wrapped := false, held := rest } } :
      State).startWindowOp (.latchLoad .command)
  | .setMode o m :: rest, s =>
    State.runHeld rest (({ s with window := { s.window with order := o, modify := m } } : State).complete [])
  | .fillStart :: rest, s => ({ s with window.held := rest } : State).startWindowOp .fillRow

/-- An operation comes to the window side: carried out now if the window side is doing nothing, held otherwise (R12). -/
def State.takeWindowOp (s : State) (op : HeldOp) : State :=
  let held := s.window.held ++ [op]
  if s.window.op = .idle then State.runHeld held s else { s with window.held := held }

/-- While a FILL runs and while NOT_READY, pixel accesses are turned away (R3, R13). -/
def State.pixelsClosed (s : State) : Bool := s.fill.running || s.notReady

/-- A host write of PIXEL DATA (R10, R13). -/
def State.writePixelData (s : State) (v : Word) : State :=
  if s.pixelsClosed then { s with window.windowBusy := true }
  else ({ s with bus.cycle := .stretchedWrite } : State).takeWindowOp (.pixelWrite v)

/-- A host read of PIXEL DATA (R11, R13). -/
def State.readPixelData (s : State) : State :=
  if s.pixelsClosed then ({ s with window.windowBusy := true } : State).deliver 0
  else ({ s with bus.cycle := .stretchedRead } : State).takeWindowOp .pixelRead

/-- The window-side grant ends and the window side asks again for its next operation. -/
def State.nextWindowOp (s : State) (op : WindowOp) : State := s.releaseGrant.startWindowOp op

/-- The landing of a pixel write with its notification, the end of its host cycle, the advance and the request of its latch
load (R10, R15, R9, R12). -/
def State.land (s : State) (v : Word) : State :=
  let s := { s with store := Memory.writePixel s.store s.window.mask s.window.x s.window.y v }
  let s := s.notify (bandOfRow s.window.y) s.window.x.val 1
  let s := s.endCycle s.window.held .stretchedWrite
  ({ s with window := s.window.advance } : State).nextWindowOp (.latchLoad .access)

/-- What the end of a latch load does besides filling the latch, by its cause (R5, R6, R18, R2). -/
def State.loadEnded (s : State) : LoadCause → State
  | .access => s
  | .command => s.complete []
  | .fillEnd => ({ s with fill.running := false } : State).complete []
  | .clearEnd => { s with notReady := false }

/-- The end of a latch load: the latch holds the pixel at the pointer, and what is held proceeds (R12). -/
def State.endLoad (s : State) (cause : LoadCause) : State :=
  let s := { s with window.latch := Memory.pixel s.store s.window.x s.window.y }
  let s := s.releaseGrant
  let s := s.loadEnded cause
  State.runHeld s.window.held s

/-- Row y of a fill's rectangle is the last of the rectangle in its store band (R17). -/
def lastRowInBand (y y1 : Nat) : Bool := y == y1 || y % 8 == 7

/-- The end of the grant of one FILL row (R17, R18). -/
def State.endFillRow (s : State) : State :=
  let f := s.fill
  let y : Coord := Fin.ofNat 512 f.row
  let s := { s with store := Memory.writeRow s.store f.mask f.rect.x0 f.rect.x1 y f.value, fill.row := f.row + 1 }
  let s := if lastRowInBand f.row f.rect.y1.val then
      s.notify (bandOfRow y) f.rect.x0.val (f.rect.x1.val - f.rect.x0.val + 1) else s
  s.nextWindowOp (if f.row = f.rect.y1.val then .latchLoad .fillEnd else .fillRow)

/-- The end of the grant of one start-up clear row: every bit of the row is 0; the last row is 511 (R2). -/
def State.endClearRow (s : State) : State :=
  let y := s.fill.clearRow
  let s := { s with
    store := Memory.writeRow s.store 0xFFFF 0 511 (Fin.ofNat 512 y) 0
    fill.clearRow := y + 1 }
  s.nextWindowOp (if y = 511 then .latchLoad .clearEnd else .clearRow)

/-- nRESET has risen: the Fill Engine begins the start-up clear from row 0 (R2). -/
def State.beginClear (s : State) : State :=
  ({ s with notReady := true, fill.clearRow := 0 } : State).startWindowOp .clearRow

end Sys2Proof.Machine
end

