-- ==== Sys2Proof/Machine/Queue.lean ====
section
/-! DEFINITION. Transmit queues, show backlogs, eligibility and hold records (chapter 5), and the transmitter (R92, R97). -/

namespace Sys2Proof.Machine

/-- The tile an entry names (Table 5-1). -/
def Entry.tile : Entry → TileIdx
  | .cell t _ => t
  | .showTile t _ => t
  | .query t _ => t

/-- Whether the Walker and QUERY TILE find room in the queue: fewer than 32 entries of every kind (R71, R49). -/
def LinkSlice.hasRoom (l : LinkSlice) : Bool := decide (l.queue.length < Config.queueDepth)

/-- An entry joins the tail of the queue (R79). -/
def LinkSlice.enqueue (l : LinkSlice) (e : Entry) : LinkSlice := { l with queue := l.queue ++ [e] }

/-- A SHOW entry joins the queue, or the backlog when the queue is full or the backlog is not empty (R79, R80). -/
def LinkSlice.appendShow (l : LinkSlice) (e : Entry) : LinkSlice :=
  if l.hasRoom && l.backlog.isEmpty then l.enqueue e else { l with backlog := l.backlog ++ [e] }

/-- Backlog entries join the queue, oldest first, one for each free place (R80, R81). -/
def LinkSlice.refill (l : LinkSlice) : LinkSlice :=
  { l with
    queue := l.queue ++ l.backlog.take (Config.queueDepth - l.queue.length)
    backlog := l.backlog.drop (Config.queueDepth - l.queue.length) }

/-- The entries of a tile in a link's queue and backlog, in the order of their removal (R44, R81). -/
def LinkSlice.entriesOf (l : LinkSlice) (t : TileIdx) : List Entry :=
  (l.queue ++ l.backlog).filter fun e => e.tile == t

/-- Removes every entry of a tile; the others keep their order and the backlog fills the freed places (R44, R81). -/
def LinkSlice.removeTile (l : LinkSlice) (t : TileIdx) : LinkSlice :=
  { l with
    queue := l.queue.filter fun e => e.tile != t
    backlog := l.backlog.filter fun e => e.tile != t }.refill

/-- Every hold record of a tile becomes an orphan (R44). -/
def LinkSlice.orphanTile (l : LinkSlice) (t : TileIdx) : LinkSlice :=
  { l with hold := l.hold.map fun r => if r.tile == t then { r with orphan := true } else r }

/-- The oldest eligible entry of a queue (R85): no older entry names its tile (`older` being the tiles of the older entries),
and a CELL entry needs credit at its tile's chain position. -/
def oldestEligible (hasCredit : TileIdx → Bool) : List TileIdx → List Entry → Option Entry
  | _, [] => none
  | older, e :: rest =>
    if older.contains e.tile then oldestEligible hasCredit older rest
    else match e with
      | .cell t _ => if hasCredit t then some e else oldestEligible hasCredit (t :: older) rest
      | .showTile _ _ => some e
      | .query _ _ => some e

/-- Credit of a tile's chain position on a link (R85). -/
def State.hasCredit (s : State) (k : Link) (t : TileIdx) : Bool :=
  decide (1 ≤ ((s.link k).position (s.tile t).position).credit)

/-- The entry a Dispatcher selects, if its queue holds an eligible one (R85). -/
def State.eligible (s : State) (k : Link) : Option Entry := oldestEligible (s.hasCredit k) [] (s.link k).queue

/-- A CELL completion takes one credit at the position (R141). -/
def PositionRecord.takeCredit (p : PositionRecord) : PositionRecord :=
  { p with credit := p.credit - 1, outstanding := p.outstanding + 1 }

/-- Whether a frame takes a tile buffer slot (Table 6-1). -/
def HoldBody.takesSlot : HoldBody → Bool
  | .band .. | .blank _ => true
  | .showTile _ | .query _ => false

/-- The hold indication of a frame handed over now (R98). -/
def State.holdIndication (s : State) : Bool := s.present.state == .collecting

/-- The frame of a hold record (R96): every field but the hold indication and the payload comes from the record. -/
def HoldRecord.frame (r : HoldRecord) (hold : Bool) (payload : List Word) : Frame :=
  .sequenced r.seq r.position hold r.body payload

/-- A frame is handed to the transmitter (R92). -/
def LinkSlice.hand (l : LinkSlice) (f : Frame) : LinkSlice := { l with tx := ⟨some f, l.tx.helloWaiting⟩ }

/-- The seen field of a HELLO handed over now (R97): yes once a partner HELLO has been taken in the attempt, and in the
closing HELLO. -/
def LinkSlice.seen (l : LinkSlice) : Bool := l.partnerHeard || l.state == .up

/-- A HELLO is handed to the transmitter, at once when it is free and at the end of its transmission otherwise (R97, R115). -/
def LinkSlice.handHello (l : LinkSlice) : LinkSlice :=
  match l.tx.sending with
  | none => { l with tx := ⟨some (.hello l.seen), false⟩ }
  | some _ => { l with tx.helloWaiting := true }

/-- The transmitter ends a frame and is free, or sends the HELLO that waited (R92, R97, R115). -/
def LinkSlice.endTransmission (l : LinkSlice) : LinkSlice :=
  match l.tx.sending with
  | none => l
  | some _ => if l.tx.helloWaiting then { l with tx := ⟨some (.hello l.seen), false⟩ } else { l with tx := ⟨none, false⟩ }

/-- The frame being sent is cut off and no HELLO waits (R92, R133, R137). -/
def LinkSlice.cutOff (l : LinkSlice) : LinkSlice := { l with tx := ⟨none, false⟩ }

/-- The completion of a dispatch at one instant (R86, R89, R90, R91, R124): the entry leaves the queue and the backlog
refills it, a BAND or BLANK takes a credit, the record joins with the next sequence number, a CELL's cell receives C, the
frame goes to the transmitter and the Dispatcher is IDLE. -/
def State.completeDispatch (s : State) (k : Link) (e : Entry) (body : HoldBody) (payload : List Word) : State :=
  let l := s.link k
  let p := (s.tile e.tile).position
  let record : HoldRecord := ⟨l.nextSeq, e.tile, p, false, body⟩
  let l := { l with queue := l.queue.erase e }.refill
  let l := if body.takesSlot then l.setPosition p (l.position p).takeCredit else l
  let l := { l with
    nextSeq := l.nextSeq + 1
    hold := l.hold ++ [record]
    replayTimer := if l.hold.isEmpty then some s.timers.replayTimeout else l.replayTimer
    engine := .idle }
  let s' := s.setLink k (l.hand (record.frame s.holdIndication payload))
  match e with
  | .cell t w => s'.captureCell t w
  | .showTile _ _ => s'
  | .query _ _ => s'

/-- The conditions of R84 but for the eligible entry. An idle capture engine holds no grant. -/
def LinkSlice.maySelect (l : LinkSlice) : Bool :=
  l.engine == .idle && l.state == .up && l.replayPoint.isNone && decide (l.hold.length < Config.holdDepth) &&
    l.tx.sending.isNone

/-- The capture engine of a link asks for the store band of a CELL entry (R87). -/
def State.askCapture (s : State) (k : Link) (t : TileIdx) (w : WallBand) (b : StoreBand) : State :=
  (s.updateLink k fun l => { l with engine := .dispatch t w b }).request (.capture k)

/-- A selection (R84 to R87): SHOW, QUERY and BLANK dispatches complete at once, any other CELL asks for the store. -/
def State.select (s : State) (k : Link) : State :=
  if (s.link k).maySelect then
    match s.eligible k with
    | none => s
    | some (.cell t w) =>
      match s.map.resolve w with
      | none => s.completeDispatch k (.cell t w) (.blank w) []
      | some b => s.askCapture k t w b
    | some (.showTile t n) => s.completeDispatch k (.showTile t n) (.showTile n) []
    | some (.query t g) => s.completeDispatch k (.query t g) (.query g) []
  else s

/-- A capture engine has nothing more to do and its grant ends. -/
def State.freeEngine (s : State) (k : Link) : State :=
  (s.updateLink k fun l => { l with engine := .idle }).releaseGrant

/-- The end of a capture grant (R88, Table 5-6; R93 for an abandoned dispatch). -/
def State.endCapture (s : State) (k : Link) : State :=
  match (s.link k).engine with
  | .dispatch t w b =>
    match s.map.resolve w with
    | none => (s.completeDispatch k (.cell t w) (.blank w) []).releaseGrant
    | some b' =>
      if b' = b then
        let r := s.tile t
        (s.completeDispatch k (.cell t w) (.band w b r.firstColumn r.width)
          (Memory.segment s.store b r.firstColumn r.width)).releaseGrant
      else s.releaseGrant.askCapture k t w b'
  | .abandonedDispatch => s.freeEngine k
  | .idle => s
  | .reRead _ => s
  | .givenUpReRead => s

/-- A dispatch in progress is abandoned (R93): a waiting request is withdrawn, a grant runs to its end. -/
def State.abandonDispatch (s : State) (k : Link) : State :=
  match (s.link k).engine with
  | .dispatch .. =>
    if s.holds (.capture k) then s.updateLink k fun l => { l with engine := .abandonedDispatch }
    else { s.updateLink k (fun l => { l with engine := .idle }) with arbiter := s.arbiter.withdraw k }
  | .idle | .abandonedDispatch | .reRead _ | .givenUpReRead => s

/-- A re-read in progress is given up (R125): a waiting request is withdrawn, a grant runs to its end. -/
def State.giveUpReRead (s : State) (k : Link) : State :=
  match (s.link k).engine with
  | .reRead _ =>
    if s.holds (.capture k) then s.updateLink k fun l => { l with engine := .givenUpReRead }
    else { s.updateLink k (fun l => { l with engine := .idle }) with arbiter := s.arbiter.withdraw k }
  | .idle | .abandonedDispatch | .dispatch .. | .givenUpReRead => s

/-- The Walker's next position (R69): tile index inner, wall band outer. -/
def Walker.next (w : Walker) : Walker :=
  if w.tile.val < 15 then { w with tile := Fin.ofNat 16 (w.tile.val + 1) }
  else if w.band.val < 47 then { w with tile := 0, band := Fin.ofNat 48 (w.band.val + 1) }
  else { w with tile := 0, band := 0 }

/-- The conditions under which the Walker queues the cell at a position (R71). -/
def State.walkerQueues (s : State) (t : TileIdx) (w : WallBand) : Bool :=
  let r := s.tile t
  let c := s.cell t w
  r.hasBand w && c.state == .stale && r.isActive && (s.link r.link).hasRoom &&
    (s.present.state != .collecting || c.marked)

/-- One examination (R69, R71): the append with Q if the conditions hold, and the cursor's move. -/
def State.examine (s : State) : State :=
  let t := s.walker.tile
  let w := s.walker.band
  let moved := { s with walker := s.walker.next }
  if s.walkerQueues t w then (moved.updateLink (s.tile t).link (·.enqueue (.cell t w))).queueCell t w else moved

end Sys2Proof.Machine
end

