-- ==== Sys2Proof/Machine/Present.lean ====
section
/-! DEFINITION. The Present Unit (chapter 9) and the Query Unit's endings (R50 to R52), and what a tile's leaving ACTIVE
does to cells, present and query (R41). -/

namespace Sys2Proof.Machine

/-! ## Presents -/

/-- A present ends (R158): IDLE, deadline stopped, remaining count 0, outcome taken, marks cleared from COLLECTING, and a
PRESENT_END record with the departing tile where there is one and the shown set for PARTIAL. -/
def State.endPresent (s : State) (outcome : PresentOutcome) (tile : Option TileIdx) : State :=
  let p := s.present
  let s := if p.state = .collecting then s.clearMarks else s
  ({ s with present := { p with state := .idle, deadline := none, remaining := 0, outcome := outcome } } : State).attend
    (.presentEnd outcome p.number tile (if outcome == .partially then some p.shown else none))

/-- The SHOW entries of a present, one for each participant in ascending order of tile index, each for its own link (R156). -/
def State.appendShows (s : State) : State :=
  ((List.finRange 16).filter fun t => TileSet.has s.present.participants t).foldl
    (fun s t => s.updateLink (s.tile t).link (·.appendShow (.showTile t s.present.number))) s

/-- The present enters SHOWING (R156). -/
def State.enterShowing (s : State) : State := ({ s with present.state := .showing } : State).appendShows

/-- A cleared-mark report (R154, R156). -/
def State.reportClearedMark (s : State) : State :=
  if s.present.state = .collecting then
    let n := s.present.remaining - 1
    let s := { s with present.remaining := n }
    if n = 0 then s.enterShowing else s
  else s

/-- The cut of a present (R152, R153): its number, participants, marks and remaining count, the deadline, COLLECTING, and
SHOWING at once when nothing is to be delivered. -/
def State.cut (s : State) : State :=
  let participants := TileSet.of fun t => (s.tile t).isActive
  let n := s.markCount participants
  let number := s.present.number + 1
  let s := s.setMarks participants
  let s := { s with present :=
    { state := .collecting, number := number, participants := participants, shown := 0, remaining := n
      deadline := if s.timers.presentDeadline = 0 then none else some s.timers.presentDeadline
      outcome := .none } }
  if n = 0 then s.enterShowing else s

/-- The Present Unit is told that tile t left ACTIVE (R159, R160). -/
def State.presentTileLeft (s : State) (t : TileIdx) : State :=
  match s.present.state with
  | .idle => s
  | .collecting => if TileSet.has s.present.participants t then s.endPresent .failed (some t) else s
  | .showing =>
    if TileSet.has s.present.participants t && !TileSet.has s.present.shown t then s.endPresent .partially (some t)
    else s

/-- The Present Unit is told of an entry removed without its completion (Table 5-2). -/
def State.presentEntryRemoved (s : State) : Entry → State
  | .showTile t n => if s.present.state = .showing ∧ n = s.present.number then s.presentTileLeft t else s
  | .cell _ _ => s
  | .query _ _ => s

/-- The release of a live SHOW record is reported (R157). -/
def State.reportShow (s : State) (t : TileIdx) (n : Byte) : State :=
  if s.present.state = .showing ∧ n = s.present.number ∧ TileSet.has s.present.participants t then
    let shown := TileSet.add s.present.shown t
    let s := { s with present.shown := shown }
    if shown = s.present.participants then s.endPresent .done none else s
  else s

/-! ## Queries -/

/-- The waiting query ends with an outcome and a QUERY_END record (R50, R51, R52). -/
def State.endQuery (s : State) (outcome : QueryOutcome) : State :=
  let q := s.query
  ({ s with query := { q with waiting := false, outcome := outcome, timeout := none } } : State).attend
    (.queryEnd (s.tile q.tile).link q.tile outcome q.tag)

/-- The Query Unit is told that tile t left ACTIVE (R52). -/
def State.queryTileLeft (s : State) (t : TileIdx) : State :=
  if s.query.waiting && s.query.tile == t then s.endQuery .lost else s

/-- The Query Unit is told of an entry removed without its completion (Table 5-2). Only the entry of the WAITING query ends
it: an entry of an ended query has no effect (R44), although its tag may have come round again (R49). -/
def State.queryEntryRemoved (s : State) : Entry → State
  | .query t g => if s.query.waiting && t == s.query.tile && g == s.query.tag then s.endQuery .lost else s
  | .cell _ _ => s
  | .showTile _ _ => s

/-! ## Leaving ACTIVE -/

/-- What removed entries and departing tiles do to the present: the removals first (R131), then the tiles in their order. -/
def State.presentDepartures (s : State) (tiles : List TileIdx) (removed : List Entry) : State :=
  tiles.foldl State.presentTileLeft (removed.foldl State.presentEntryRemoved s)

/-- What removed entries and departing tiles do to the query. -/
def State.queryDepartures (s : State) (tiles : List TileIdx) (removed : List Entry) : State :=
  tiles.foldl State.queryTileLeft (removed.foldl State.queryEntryRemoved s)

/-- Whether the departures end both the present and the query, so that two records are written. -/
def State.departuresEndBoth (s : State) (tiles : List TileIdx) (removed : List Entry) : Bool :=
  (s.presentDepartures tiles removed).present.state != s.present.state &&
    (s.queryDepartures tiles removed).query.waiting != s.query.waiting

/-- Tiles leave ACTIVE and entries leave their queues without completion (R41, R44, R63, Table 5-2): F for the cells, then
the present and the query. Where both end, their two records join in either order, which is a free value (assumption 13). -/
def State.leaveActive (s : State) (tiles : List TileIdx) (removed : List Entry) : State :=
  let s := (s.failEntries removed).failTiles tiles
  if s.departuresEndBoth tiles removed then
    let s' := { s with freeCount := s.freeCount + 1 }
    if Config.queryEndFirst s.freeCount then (s'.queryDepartures tiles removed).presentDepartures tiles removed
    else (s'.presentDepartures tiles removed).queryDepartures tiles removed
  else (s.presentDepartures tiles removed).queryDepartures tiles removed

end Sys2Proof.Machine
end

