-- ==== Sys2Proof/Machine/LinkEngine.lean ====
section
/-! DEFINITION. The Link Engines (chapter 7) with their chain position records (chapter 8): attempts, entry to UP, loss,
acknowledgement, replay, and the notices of chapter 6. -/

namespace Sys2Proof.Machine

/-! ## Chain positions -/

/-- A position becomes absent (R148). -/
def PositionRecord.absent (p : PositionRecord) : PositionRecord :=
  { p with present := false, credit := 0, outstanding := 0 }

/-- A present position loads from the HELLO that brought the link UP (R140). -/
def PositionRecord.loaded (capacity : Nibble) (restart : Nibble) : PositionRecord where
  present := true
  capacity := capacity.toNat
  credit := capacity.toNat
  outstanding := 0
  lastFreed := 0
  restart := restart
  shown := 0
  shownValid := false

/-- The four records load: positions below the chain length become present, the others stay as they are (R140). -/
def LinkSlice.loadPositions (l : LinkSlice) (n : BitVec 3) (capacity restart : Vector Nibble 4) : LinkSlice :=
  { l with positions := Vector.ofFn fun p =>
    if p.val < n.toNat then .loaded capacity[p] restart[p] else l.position p }

/-- Every position of the link becomes absent (R148). -/
def LinkSlice.allAbsent (l : LinkSlice) : LinkSlice := { l with positions := l.positions.map PositionRecord.absent }

/-- The credit return of a TILE STATUS with the difference d (R144, R145): never more than is outstanding. -/
def PositionRecord.returnCredit (p : PositionRecord) (d : Nat) (freed shown : Byte) : PositionRecord :=
  let m := min d p.outstanding
  { p with
    credit := p.credit + m
    outstanding := p.outstanding - m
    lastFreed := freed
    shown := shown
    shownValid := true }

/-! ## Attempts -/

/-- An attempt begins (R115): TRAINING, partner heard no, the attempt timer and the HELLO interval run, a HELLO goes out. -/
def LinkSlice.beginAttempt (l : LinkSlice) (time : Nat) : LinkSlice :=
  { l with state := .training, partnerHeard := false, attemptTimer := some time, helloInterval := true }.handHello

/-- An attempt ends: its timer and its HELLOs stop (R115). -/
def LinkSlice.endAttempt (l : LinkSlice) : LinkSlice :=
  { l with attemptTimer := none, helloInterval := false, tx.helloWaiting := false }

/-- Link k begins an attempt with the setting of now. -/
def State.beginAttempt (s : State) (k : Link) : State := s.updateLink k (·.beginAttempt s.timers.attemptTime)

/-- The attempt timer expires (R118). -/
def State.attemptTimedOut (s : State) (k : Link) : State :=
  let n := (s.link k).attemptCount + 1
  let s := s.updateLink k fun l => { l with attemptCount := n }
  if s.timers.attemptLimit ≤ n then
    (s.updateLink k fun l => { l.endAttempt with state := .fault, partnerHeard := false }).attend (.linkFault k n)
  else s.beginAttempt k

/-! ## Entry to UP -/

/-- The Tile Table examines one enabled tile of the link that came UP (R40). -/
def State.joinTile (k : Link) (s : State) (t : TileIdx) : State :=
  let r := s.tile t
  if r.enabled && r.link == k then
    if ((s.link k).position r.position).present then
      (s.setTile t { r with state := .active }).attend (.tileJoined k t)
    else s.attend (.tileMissing k t r.position)
  else s

/-- The Link Engine's own part of the entry to UP (R117), with the load of the positions (R140). -/
def LinkSlice.enterUp (l : LinkSlice) (silence : Nat) (n : BitVec 3) (capacity restart : Vector Nibble 4) : LinkSlice :=
  { (l.endAttempt.loadPositions n capacity restart) with
    state := .up, attemptCount := 0, nextSeq := 0, silenceTimer := some silence }

/-- Entry to UP (R117): the records load, LINK_UP, then the tiles in ascending order, then the closing HELLO. -/
def State.enterUp (s : State) (k : Link) (n : BitVec 3) (capacity restart : Vector Nibble 4) : State :=
  let s := s.updateLink k (·.enterUp s.timers.silenceTimeout n capacity restart)
  let s := s.attend (.linkUp k)
  let s := (List.finRange 16).foldl (State.joinTile k) s
  s.updateLink k (·.handHello)

/-! ## Loss -/

/-- The ACTIVE tiles of a link, ascending. -/
def State.activeTiles (s : State) (k : Link) : List TileIdx :=
  (List.finRange 16).filter fun t => (s.tile t).isActive && (s.tile t).link == k

/-- Tiles of a list become WAITING (R131). -/
def State.makeWaiting (s : State) (ts : List TileIdx) : State :=
  { s with tiles := Vector.ofFn fun t =>
    if ts.contains t then { s.tile t with state := .waiting } else s.tile t }

/-- The link's own part of a loss (R131): frame cut off, queue and hold list emptied, replay and timers stopped, positions
absent, out of UP. -/
def LinkSlice.dropUp (l : LinkSlice) : LinkSlice :=
  { l.cutOff.allAbsent with
    state := .off, queue := [], backlog := [], hold := [], replayPoint := none, replayCount := 0
    replayTimer := none, silenceTimer := none }

/-- Where the link goes after a loss (Table 7-7): OFF for LINK DISABLE, a new attempt otherwise. -/
def State.afterLoss (s : State) (k : Link) (off : Bool) : State :=
  if off then s.updateLink k fun l => { l with partnerHeard := false } else s.beginAttempt k

/-- A loss (R131), in the rule's order. -/
def State.loseLink (s : State) (k : Link) (reason : LossReason) (off : Bool) : State :=
  let tiles := s.activeTiles k
  let removed := (s.link k).queue ++ (s.link k).backlog
  let s := s.attend (.linkLost k reason)
  let s := (s.abandonDispatch k).giveUpReRead k
  let s := (s.updateLink k (·.dropUp)).makeWaiting tiles
  (s.leaveActive tiles removed).afterLoss k off

/-! ## Acknowledgement and replay -/

/-- The acknowledgeable range for an ACK (R119): with L records held and next number N, the values N - 1 - L to N - 1. -/
def LinkSlice.ackInRange (l : LinkSlice) (q : SeqNo) : Bool := decide ((l.nextSeq - 1 - q).toNat ≤ l.hold.length)

/-- The range for a NAK (R119): N - L to N. -/
def LinkSlice.nakInRange (l : LinkSlice) (q : SeqNo) : Bool := decide ((l.nextSeq - q).toNat ≤ l.hold.length)

/-- The place of the record numbered q in the hold list. -/
def LinkSlice.heldAt (l : LinkSlice) (q : SeqNo) : Option Nat := l.hold.findIdx? fun r => r.seq == q

/-- The effect of one release (R122, Table 7-3, R62). -/
def State.releaseEffect (s : State) (r : HoldRecord) : State :=
  if r.orphan then s
  else match r.body with
    | .band w _ _ _ => ackCellOf w
    | .blank w => ackCellOf w
    | .showTile n => s.reportShow r.tile n
    | .query _ => s
where
  /-- A for the record's cell, with its report when it clears a mark. -/
  ackCellOf (w : WallBand) : State :=
    if (s.cell r.tile w).ackReports then (s.ackCell r.tile w).reportClearedMark else s.ackCell r.tile w

/-- The n oldest records are released (R120, R122, R124, R128): their effects oldest first, the replay count to 0, the replay
timer restarted or stopped, and a replay whose point was released goes on from the oldest record left or ends. -/
def State.release (s : State) (k : Link) (n : Nat) : State :=
  let l := s.link k
  let gone := l.hold.take n
  let rest := l.hold.drop n
  if gone.isEmpty then s
  else
    let s := s.setLink k { l with
      hold := rest, replayCount := 0, replayTimer := if rest.isEmpty then none else some s.timers.replayTimeout }
    let s := gone.foldl State.releaseEffect s
    match l.replayPoint with
    | none => s
    | some p =>
      if gone.any fun r => r.seq == p then
        (s.giveUpReRead k).updateLink k fun l => { l with replayPoint := rest.head?.map (·.seq) }
      else s

/-- A replay begins from the record numbered q (R125). -/
def State.beginReplay (s : State) (k : Link) (q : SeqNo) : State :=
  (s.giveUpReRead k).updateLink k fun l =>
    { l with replayPoint := some q, replayTimer := some s.timers.replayTimeout }

/-- The replay count rises; above the limit the link is lost, otherwise a replay begins from q (R121, R124). -/
def State.countReplay (s : State) (k : Link) (q : SeqNo) : State :=
  let n := (s.link k).replayCount + 1
  let s := s.updateLink k fun l => { l with replayCount := n }
  if s.timers.replayLimit < n then s.loseLink k .replayLimit false else s.beginReplay k q

/-- An ACK at the delivery of a link (R120, R123). -/
def State.takeAck (s : State) (k : Link) (q : SeqNo) : State :=
  let l := s.link k
  if l.ackInRange q then
    match l.heldAt q with
    | some i => s.release k (i + 1)
    | none => s
  else s.updateLink k (·.setStray)

/-- A NAK at the delivery of a link (R121, R123). -/
def State.takeNak (s : State) (k : Link) (q : SeqNo) : State :=
  let l := s.link k
  if l.nakInRange q then
    match l.heldAt q with
    | some i => (s.release k i).countReplay k q
    | none => s.release k l.hold.length
  else s.updateLink k (·.setStray)

/-- The replay timer expires (R124). -/
def State.replayTimedOut (s : State) (k : Link) : State :=
  match (s.link k).hold with
  | r :: _ => s.countReplay k r.seq
  | [] => s

/-- The held record numbered q. -/
def LinkSlice.heldRecord (l : LinkSlice) (q : SeqNo) : Option HoldRecord := l.hold.find? fun r => r.seq == q

/-- A retransmission of a record is handed over: the replay point moves to the next held record, or the replay ends after
the newest (R126). -/
def LinkSlice.handReplayed (l : LinkSlice) (r : HoldRecord) (f : Frame) : LinkSlice :=
  { l.hand f with replayPoint := ((l.hold.dropWhile fun h => h.seq != r.seq).drop 1).head?.map (·.seq) }

/-- The conditions of a retransmission (R126): a replay in progress, the transmitter free, no dispatch or re-read in
progress and no grant held by the capture engine. -/
def LinkSlice.mayRetransmit (l : LinkSlice) : Option HoldRecord :=
  if l.engine == .idle && l.tx.sending.isNone then l.replayPoint.bind l.heldRecord else none

/-- The record at the replay point is retransmitted: at once, or by a re-read for BAND (R126). -/
def State.retransmit (s : State) (k : Link) : State :=
  match (s.link k).mayRetransmit with
  | none => s
  | some r =>
    match r.body with
    | .band .. => (s.updateLink k fun l => { l with engine := .reRead r.seq }).request (.capture k)
    | .blank _ => s.updateLink k fun l => l.handReplayed r (r.frame s.holdIndication [])
    | .showTile _ => s.updateLink k fun l => l.handReplayed r (r.frame s.holdIndication [])
    | .query _ => s.updateLink k fun l => l.handReplayed r (r.frame s.holdIndication [])

/-- The payload of a retransmitted record: the segment of its own store band and columns (R126, R90). -/
def State.replayPayload (s : State) (r : HoldRecord) : List Word :=
  match r.body with
  | .band _ b column width => Memory.segment s.store b column width
  | .blank _ => []
  | .showTile _ => []
  | .query _ => []

/-- The end of a re-read grant (R126, R125). -/
def State.endReRead (s : State) (k : Link) : State :=
  match (s.link k).engine with
  | .reRead q =>
    match (s.link k).heldRecord q with
    | some r =>
      (s.updateLink k fun l => l.handReplayed r (r.frame s.holdIndication (s.replayPayload r))).freeEngine k
    | none => s.freeEngine k
  | .givenUpReRead => s.freeEngine k
  | .idle => s
  | .dispatch .. => s
  | .abandonedDispatch => s

/-! ## Notices -/

/-- The silence timer restarts (R108, R129). -/
def State.restartSilence (s : State) (k : Link) : State :=
  s.updateLink k fun l => { l with silenceTimer := some s.timers.silenceTimeout }

/-- A valid notice other than a HELLO (R108, R109): in UP it restarts the silence timer and goes to its block; in OFF, TRAINING
and FAULT it is discarded with no effect. -/
def State.notice (s : State) (k : Link) (f : State → State) : State :=
  match (s.link k).state with
  | .up => f (s.restartSilence k)
  | .off => s
  | .training => s
  | .fault => s

/-- A notice that is not valid (R102, R109). -/
def State.badNotice (s : State) (k : Link) : State :=
  match (s.link k).state with
  | .up => s.updateLink k (·.setBadNotice)
  | .training => s.updateLink k (·.setBadNotice)
  | .off => s
  | .fault => s

/-- A partner HELLO is well formed: chain length 1 to 4 and a capacity of at least 1 at every present position (R104). -/
def helloWellFormed (n : BitVec 3) (capacity : Vector Nibble 4) : Bool :=
  decide (1 ≤ n.toNat) && decide (n.toNat ≤ 4) &&
    (List.finRange 4).all fun p => decide (n.toNat ≤ p.val) || decide (1 ≤ (capacity[p]).toNat)

/-- A partner HELLO with a good check (R104, R109, R116). -/
def State.takeHello (s : State) (k : Link) (seen : Bool) (n : BitVec 3) (capacity restart : Vector Nibble 4) : State :=
  if helloWellFormed n capacity then
    match (s.link k).state with
    | .training =>
      let s := s.updateLink k fun l => { l with partnerHeard := true }
      if seen then s.enterUp k n capacity restart else s
    | .up => (s.restartSilence k).loseLink k .partnerHello false
    | .off => s
    | .fault => s
  else s.badNotice k

/-- The enabled tile that names a link and chain position, if any (R145). -/
def State.tileAt (s : State) (k : Link) (p : Position) : Option TileIdx :=
  (List.finRange 16).find? fun t => (s.tile t).enabled && (s.tile t).link == k && (s.tile t).position == p

/-- Whom a CREDIT_EXCESS record names (R145). -/
def State.excessSubject (s : State) (k : Link) (p : Position) : ExcessSubject :=
  match s.tileAt k p with
  | some t => .tile t
  | none => .position p

/-- A TILE STATUS at the records of its link (R142 to R146, Table 8-2). -/
def State.takeTileStatus (s : State) (k : Link) (p : Position) (freed : Byte) (restart : Nibble) (shown : Byte) : State :=
  let r := (s.link k).position p
  if !r.present then s.updateLink k (·.setStray)
  else if restart ≠ r.restart then s.loseLink k .tileRestart false
  else
    let d := (freed - r.lastFreed).toNat
    let s := s.updateLink k (·.setPosition p (r.returnCredit d freed shown))
    if r.outstanding < d then
      (s.updateLink k fun l => { l with creditExcess := true }).attend (.creditExcess k (s.excessSubject k p))
    else s

/-- Whether the Query Unit accepts a REPORT (R50). -/
def State.acceptsReport (s : State) (k : Link) (p : Position) (tag : Byte) : Bool :=
  s.query.waiting && (s.tile s.query.tile).link == k && (s.tile s.query.tile).position == p && s.query.tag == tag

/-- A REPORT at the Query Unit (R50). -/
def State.takeReport (s : State) (k : Link) (p : Position) (tag : Byte) (capacity : Nibble) (shown : Byte)
    (restart : Nibble) (word : BitVec 32) : State :=
  if s.acceptsReport k p tag then
    ({ s with query := { s.query with capacity := capacity, shown := shown, restart := restart, tileWord := word } } :
      State).endQuery .done
  else s.updateLink k (·.setStray)

end Sys2Proof.Machine
end

