-- ==== Sys2Proof/Machine/Registers.lean ====
section
/-! DEFINITION. The words the host reads: the register fields of Table 11-6 (R185), the attention record words of Table 11-8
(R187), and the packed result words of Table 11-7 (R186). -/

namespace Sys2Proof.Machine

/-! ## Attention records (R171, R187) -/

/-- The kind code of a record (R187); 0 is NONE, which no record has. -/
def AttentionEvent.kind : AttentionEvent → Nat
  | .linkUp .. => 1
  | .linkLost .. => 2
  | .linkFault .. => 3
  | .tileJoined .. => 4
  | .tileMissing .. => 5
  | .presentEnd .. => 6
  | .queryEnd .. => 7
  | .creditExcess .. => 8

/-- The link a record holds (Table 10-2). -/
def AttentionEvent.link : AttentionEvent → Option Link
  | .linkUp k => some k
  | .linkLost k _ => some k
  | .linkFault k _ => some k
  | .tileJoined k _ => some k
  | .tileMissing k _ _ => some k
  | .presentEnd .. => none
  | .queryEnd k _ _ _ => some k
  | .creditExcess k _ => some k

/-- The tile a record holds (Table 10-2). -/
def AttentionEvent.tile : AttentionEvent → Option TileIdx
  | .linkUp _ => none
  | .linkLost .. => none
  | .linkFault .. => none
  | .tileJoined _ t => some t
  | .tileMissing _ t _ => some t
  | .presentEnd _ _ t _ => t
  | .queryEnd _ t _ _ => some t
  | .creditExcess _ (.tile t) => some t
  | .creditExcess _ (.position _) => none

/-- Word 1 of a record. -/
def AttentionRecord.word1 (r : AttentionRecord) : Word :=
  pack [field 0 4 r.event.kind, flag 4 r.gap,
    flag 5 r.event.link.isSome, field 6 2 ((r.event.link.map (·.val)).getD 0),
    flag 8 r.event.tile.isSome, field 9 4 ((r.event.tile.map (·.val)).getD 0)]

/-- Word 2 of a record. -/
def AttentionEvent.word2 : AttentionEvent → Word
  | .linkUp _ => 0
  | .linkLost _ r => field 0 3 r.code
  | .linkFault _ n => field 0 4 n
  | .tileJoined .. => 0
  | .tileMissing _ _ p => field 0 2 p.val
  | .presentEnd o n _ _ => pack [field 0 3 o.code, field 8 8 n.toNat]
  | .queryEnd _ _ o g => pack [field 0 2 o.code, field 8 8 g.toNat]
  | .creditExcess _ (.tile _) => 0
  | .creditExcess _ (.position p) => pack [field 0 2 p.val, flag 2 true]

/-- Word 3 of a record: the shown set of a PARTIAL. -/
def AttentionEvent.word3 : AttentionEvent → Word
  | .presentEnd _ _ _ shown => shown.getD 0
  | .linkUp _ => 0
  | .linkLost .. => 0
  | .linkFault .. => 0
  | .tileJoined .. => 0
  | .tileMissing .. => 0
  | .queryEnd .. => 0
  | .creditExcess .. => 0

/-- The word a read of ATTENTION returns (R171, R172): the next read-out word, word 1 of the oldest record, or word 1 of NONE. -/
def Attention.nextWord (a : Attention) : Word :=
  match a.readOut with
  | w :: _ => w
  | [] =>
    match a.records with
    | r :: _ => r.word1
    | [] => 0

/-- What a read of ATTENTION does to the queue and the read-out (R171, R172). -/
def Attention.read (a : Attention) : Attention :=
  match a.readOut with
  | _ :: rest => { a with readOut := rest }
  | [] =>
    match a.records with
    | r :: rest => { a with records := rest, readOut := [r.event.word2, r.event.word3] }
    | [] => { a with readOut := [0, 0] }

/-! ## Status registers (R185) -/

/-- DEVICE STATUS. -/
def State.deviceStatus (s : State) : Word :=
  pack [flag 0 s.notReady, flag 1 s.cu.busy, field 2 2 s.present.state.code,
    field 4 4 s.cu.params.length, field 8 4 s.cu.results.length]

/-- COMMAND STATUS. -/
def CommandUnit.status (c : CommandUnit) : Word :=
  pack [field 0 8 c.lastCode.toNat, field 8 4 c.lastResult.code, flag 12 c.done, flag 13 c.collision, flag 14 c.overflow]

/-- WINDOW STATUS. -/
def PixelWindow.status (w : PixelWindow) : Word := pack [flag 0 w.wrapped, flag 1 w.windowBusy]

/-- PRESENT STATUS. -/
def PresentRecord.status (p : PresentRecord) : Word :=
  pack [field 0 2 p.state.code, field 2 3 p.outcome.code, field 8 8 p.number.toNat]

/-- ATTENTION COUNT (R172): the read-out is not counted. -/
def Attention.count (a : Attention) : Word := pack [field 0 5 a.records.length, flag 15 a.gapFlag]

/-- INTERRUPT ENABLE (R175). -/
def Attention.enables (a : Attention) : Word := pack [flag 0 a.attentionEnable, flag 1 a.doneEnable]

/-- INTERRUPT PENDING (R174). -/
def State.interruptPending (s : State) : Word := pack [flag 0 s.attentionPending, flag 1 s.donePending]

/-- LINK STATUS of a link (R103, R113). -/
def LinkSlice.status (l : LinkSlice) : Word :=
  pack [field 0 2 l.state.code, flag 2 l.replaying, flag 3 l.stray, flag 4 l.badNotice, flag 5 l.creditExcess]

/-- The value a read of a location returns at this instant (R176, R177, R185, Table 11-1). Write-only and unused locations
read 0. The effects of the reads that have one are the rows RESULT_READ, COMMAND_STATUS_READ, PIXEL_READ, ATTENTION_READ. -/
def State.readLocation (s : State) (a : Fin 32) : Word :=
  match a.val with
  | 0x00 => Config.idVendor
  | 0x01 => Config.idPart
  | 0x02 => Config.idRevision
  | 0x03 => s.deviceStatus
  | 0x06 => s.cu.results.head?.getD 0
  | 0x07 => s.cu.status
  | 0x08 => if s.pixelsClosed then 0 else s.window.latch
  | 0x09 => s.window.mask
  | 0x0A => s.window.status
  | 0x0B => s.present.status
  | 0x0C => field 0 10 s.present.remaining
  | 0x0D => s.attention.nextWord
  | 0x0E => s.attention.count
  | 0x0F => s.attention.enables
  | 0x10 => s.interruptPending
  | 0x11 => (s.link 0).status
  | 0x12 => (s.link 1).status
  | 0x13 => (s.link 2).status
  | 0x14 => (s.link 3).status
  | _ => 0

/-! ## Result words (R186) -/

/-- The eight words of TILE READ (R46). -/
def State.tileReadWords (s : State) (t : TileIdx) : List Word :=
  let r := s.tile t
  let p := (s.link r.link).position r.position
  [numWord r.state.code,
   pack [field 0 2 r.link.val, field 4 2 r.position.val],
   numWord r.firstColumn,
   numWord r.width,
   pack [field 0 6 r.firstBand, field 8 6 r.bandCount],
   pack [flag 0 p.present, field 4 4 p.capacity, field 8 4 p.credit],
   pack [field 0 4 p.outstanding, field 8 8 p.lastFreed.toNat],
   pack [field 0 4 p.restart.toNat, flag 7 p.shownValid, field 8 8 p.shown.toNat]]

/-- The six words of QUERY READ (R53). -/
def QueryRecord.words (q : QueryRecord) : List Word :=
  [pack [flag 0 q.waiting, field 8 2 q.outcome.code],
   pack [field 0 4 q.tile.val, field 8 8 q.tag.toNat],
   pack [field 0 4 q.capacity.toNat, field 8 4 q.restart.toNat],
   numWord q.shown.toNat,
   q.tileWord.extractLsb' 16 16,
   q.tileWord.extractLsb' 0 16]

/-- The four words of CELL READ (R76). -/
def State.cellReadWords (s : State) (t : TileIdx) (w : WallBand) : List Word :=
  let c := s.cell t w
  [numWord c.state.code,
   pack [flag 0 c.marked, flag 1 ((s.tile t).hasBand w)],
   pack [field 0 1 s.walker.mode.code, flag 1 s.walkerRunning],
   pack [field 0 4 s.walker.tile.val, field 8 6 s.walker.band.val]]

/-- The five words of PRESENT READ (R167). -/
def PresentRecord.words (p : PresentRecord) : List Word :=
  [pack [field 0 2 p.state.code, field 8 3 p.outcome.code],
   numWord p.number.toNat,
   numWord p.remaining,
   p.participants,
   p.shown]

/-- The five words of MAP READ (R30). -/
def BandMap.readWords (m : BandMap) (w : WallBand) : List Word :=
  let entry := m.entries[w]
  let source := m.resolve w
  [numWord entry.isSome.toNat,
   numWord ((entry.map (·.val)).getD 0),
   numWord source.isSome.toNat,
   numWord ((source.map (·.val)).getD 0),
   numWord (m.inRegion w).toNat]

end Sys2Proof.Machine
end

