-- ==== Sys2Proof/Machine/Resets.lean ====
section
/-! DEFINITION. The meanings of HARD_RESET, HARD_RESET_END, START_UP_CLEAR_ROW and SOFT_RESET. -/

namespace Sys2Proof.Machine

/-- nRESET falls: every block takes its hard-reset values and everything in progress is abandoned, notices in progress among
it (R176, R110, and the hard-reset value of every chapter). What waits in the model's command queue and the model's own counter stay. -/
def State.hardReset (s : State) : State :=
  { State.inReset with
    bus := ⟨.none, s.hostAccess.bus.data⟩
    freeCount := s.hostAccess.freeCount
    pending := s.pending }

/-- HARD_RESET. -/
def execHardReset (s : State) : Host.Outcome State Fault Refusal := .next s.hardReset

/-- HARD_RESET_END (R2): the device is NOT_READY and the start-up clear begins. nRESET already high cannot rise (assumption 2). -/
def execHardResetEnd (s : State) : Host.Outcome State Fault Refusal :=
  .next (if s.nReset then s else ({ s with nReset := true } : State).beginClear)

/-- START_UP_CLEAR_ROW (R2). -/
def execStartUpClearRow (s : State) : Host.Outcome State Fault Refusal :=
  s.event fun s => if s.window.op = .clearRow ∧ s.holds .window then s.endClearRow else s

/-- SOFT RESET on one link slice (R137, R82, R148, Table 7-1), with the notice in progress abandoned on every link (R110): an
OFF link keeps its attempt count and next sequence number (assumption 18). -/
def LinkSlice.softReset (l : LinkSlice) (time : Nat) : LinkSlice :=
  let l := { l.allAbsent.clearFlags with
    queue := [], backlog := [], hold := [], replayPoint := none, replayCount := 0, replayTimer := none
    silenceTimer := none, receiving := none }
  match l.state with
  | .off => l
  | .training | .up | .fault => { l.cutOff with attemptCount := 0, nextSeq := 0 }.beginAttempt time

/-- SOFT RESET on one link with its capture engine (R93, R125, R137). -/
def State.softResetLink (s : State) (k : Link) : State :=
  ((s.abandonDispatch k).giveUpReRead k).updateLink k (·.softReset s.timers.attemptTime)

/-- SOFT RESET on the present record (R163). -/
def PresentRecord.softReset (p : PresentRecord) : PresentRecord :=
  match p.state with
  | .idle => p
  | .collecting | .showing => { p with state := .idle, deadline := none, remaining := 0, outcome := .reset }

/-- SOFT RESET on the query record (R48). -/
def QueryRecord.softReset (q : QueryRecord) : QueryRecord :=
  if q.waiting then { q with waiting := false, outcome := .lost, timeout := none } else q

/-- SOFT RESET on a tile record (R47). -/
def TileRecord.softReset (r : TileRecord) : TileRecord :=
  match r.state with
  | .disabled => r
  | .waiting | .active => { r with state := .waiting }

/-- SOFT RESET on every block at one instant (R184). -/
def State.softReset (s : State) : State :=
  let s := (List.finRange 4).foldl State.softResetLink s
  { s with
    window := { s.window with wrapped := false, windowBusy := false }
    map.sweep := none
    tiles := s.tiles.map TileRecord.softReset
    cells := Vector.replicate 16 (Vector.replicate 48 .hardReset)
    walker := ⟨s.walker.mode, 0, 0⟩
    present := s.present.softReset
    query := s.query.softReset
    attention := { s.attention with records := [], gapFlag := false, readOut := [] }
    cu.collision := false }

/-- SOFT_RESET (R184): it collides while BUSY and is never refused. -/
def execSoftReset (s : State) : Host.Outcome State Fault Refusal :=
  s.access fun s => if s.cu.busy then s.collide else ((s.takeCommand 0x1A).softReset).complete []

end Sys2Proof.Machine
end

