-- ==== Sys2Proof/Machine/HostAccess.lean ====
section
/-! DEFINITION. The meanings of the host's accesses that are not listed commands: PIXEL_WRITE, PIXEL_READ, PARAMETER_WRITE,
RESULT_READ, COMMAND_STATUS_READ, ATTENTION_READ, WRITE_MASK_WRITE, INTERRUPT_ENABLE_WRITE, REGISTER_WRITE, UNKNOWN_COMMAND. -/

namespace Sys2Proof.Machine

/-- PIXEL_WRITE (R10, R12, R13). -/
def execPixelWrite (v : Word) (s : State) : Host.Outcome State Fault Refusal := s.access fun s => s.writePixelData v

/-- PIXEL_READ (R11, R12, R13). -/
def execPixelRead (s : State) : Host.Outcome State Fault Refusal := s.access fun s => s.readPixelData

/-- A word written to PARAMETER joins the FIFO, or is dropped and sets the overflow flag (R178). -/
def CommandUnit.addParameter (c : CommandUnit) (v : Word) : CommandUnit :=
  if c.params.length < Config.fifoDepth then { c with params := c.params ++ [v] } else { c with overflow := true }

/-- PARAMETER_WRITE (R178). -/
def execParameterWrite (v : Word) (s : State) : Host.Outcome State Fault Refusal :=
  s.access fun s => { s with cu := s.cu.addParameter v }

/-- RESULT_READ (R182). -/
def execResultRead (s : State) : Host.Outcome State Fault Refusal :=
  s.access fun s =>
    match s.cu.results with
    | [] => s.deliver 0
    | w :: rest => ({ s with cu.results := rest } : State).deliver w

/-- COMMAND_STATUS_READ (R181). -/
def execCommandStatusRead (s : State) : Host.Outcome State Fault Refusal :=
  s.access fun s =>
    ({ s with cu := { s.cu with done := false, collision := false } } : State).deliver s.cu.status

/-- ATTENTION_READ (R171, R172). -/
def execAttentionRead (s : State) : Host.Outcome State Fault Refusal :=
  s.access fun s => ({ s with attention := s.attention.read } : State).deliver s.attention.nextWord

/-- WRITE_MASK_WRITE (R8). -/
def execWriteMaskWrite (v : Word) (s : State) : Host.Outcome State Fault Refusal :=
  s.access fun s => { s with window.mask := v }

/-- INTERRUPT_ENABLE_WRITE (R175, note 2 of Table 11-6). IRQ is a view of the enables. -/
def execInterruptEnableWrite (v : Word) (s : State) : Host.Outcome State Fault Refusal :=
  s.access fun s =>
    { s with attention := { s.attention with attentionEnable := v.getLsbD 0, doneEnable := v.getLsbD 1 } }

/-- REGISTER_WRITE (R176): a write to a read-only or unused location is ignored. -/
def execRegisterWrite (_location : IgnoredLocation) (_v : Word) (s : State) : Host.Outcome State Fault Refusal :=
  s.access fun s => s

/-- UNKNOWN_COMMAND (R179, check 1; R180): taken and refused with UNKNOWN, the last command code FFh. A listed code makes
no UNKNOWN_COMMAND (assumption 20). -/
def execUnknownCommand (code : Word) (s : State) : Host.Outcome State Fault Refusal :=
  if Config.listedCode code then .refused (.illFormed "UNKNOWN_COMMAND")
  else s.access fun s => if s.cu.busy then s.collide else (s.takeCommand 0xFF).refuse .unknown

end Sys2Proof.Machine
end

