-- ==== Sys2Proof/Machine/Engines.lean ====
section
/-! DEFINITION. The meanings of the engine steps: the ends of window-side grants, the sweep, the Walker, the Dispatchers and
capture engines, the transmitters and the replays. A step that cannot occur leaves the state (assumption 2). -/

namespace Sys2Proof.Machine

/-- WINDOW_WRITE_LANDING (R10). -/
def execWindowWriteLanding (s : State) : Host.Outcome State Fault Refusal :=
  s.event fun s =>
    match s.window.op with
    | .pixelWrite v => if s.holds .window then s.land v else s
    | .idle | .latchLoad _ | .fillRow | .clearRow => s

/-- LATCH_LOAD (R12). -/
def execLatchLoad (s : State) : Host.Outcome State Fault Refusal :=
  s.event fun s =>
    match s.window.op with
    | .latchLoad cause => if s.holds .window then s.endLoad cause else s
    | .idle | .pixelWrite _ | .fillRow | .clearRow => s

/-- FILL_ROW (R17, R18). -/
def execFillRow (s : State) : Host.Outcome State Fault Refusal :=
  s.event fun s => if s.window.op = .fillRow ∧ s.holds .window then s.endFillRow else s

/-- REMAP_SWEEP_PASS (R34). -/
def execRemapSweepPass (s : State) : Host.Outcome State Fault Refusal := s.event fun s => s.sweepPass

/-- WALKER_EXAMINATION (R69, R70, R71): a stopped Walker examines nothing. -/
def execWalkerExamination (s : State) : Host.Outcome State Fault Refusal :=
  s.event fun s => if s.walkerRunning then s.examine else s

/-- DISPATCH_SELECTION (R84 to R87). -/
def execDispatchSelection (k : Link) (s : State) : Host.Outcome State Fault Refusal := s.event fun s => s.select k

/-- CAPTURE_GRANT_END (R88, R93). -/
def execCaptureGrantEnd (k : Link) (s : State) : Host.Outcome State Fault Refusal :=
  s.event fun s => if s.holds (.capture k) then s.endCapture k else s

/-- TRANSMISSION_END (R92, R97, R115). -/
def execTransmissionEnd (k : Link) (s : State) : Host.Outcome State Fault Refusal :=
  s.event fun s => s.updateLink k (·.endTransmission)

/-- REPLAY_RETRANSMISSION (R126). -/
def execReplayRetransmission (k : Link) (s : State) : Host.Outcome State Fault Refusal :=
  s.event fun s => s.retransmit k

/-- RE_READ_GRANT_END (R126, R125). -/
def execReReadGrantEnd (k : Link) (s : State) : Host.Outcome State Fault Refusal :=
  s.event fun s => if s.holds (.capture k) then s.endReRead k else s

end Sys2Proof.Machine
end

