-- ==== Sys2Proof/Machine/Expiries.lean ====
section
/-! DEFINITION. The meanings of the timer expiries. A stopped timer does not expire: the state stays (assumption 2). -/

namespace Sys2Proof.Machine

/-- HELLO_INTERVAL (R115). -/
def execHelloInterval (k : Link) (s : State) : Host.Outcome State Fault Refusal :=
  s.event fun s => if (s.link k).helloInterval then s.updateLink k (·.handHello) else s

/-- ATTEMPT_TIMEOUT (R118). -/
def execAttemptTimeout (k : Link) (s : State) : Host.Outcome State Fault Refusal :=
  s.event fun s => if (s.link k).attemptTimer.isSome then s.attemptTimedOut k else s

/-- REPLAY_TIMEOUT (R124). -/
def execReplayTimeout (k : Link) (s : State) : Host.Outcome State Fault Refusal :=
  s.event fun s => if (s.link k).replayTimer.isSome then s.replayTimedOut k else s

/-- SILENCE_TIMEOUT (R129). -/
def execSilenceTimeout (k : Link) (s : State) : Host.Outcome State Fault Refusal :=
  s.event fun s => if (s.link k).silenceTimer.isSome then s.loseLink k .silence false else s

/-- QUERY_TIMEOUT (R51). -/
def execQueryTimeout (s : State) : Host.Outcome State Fault Refusal :=
  s.event fun s => if s.query.waiting && s.query.timeout.isSome then s.endQuery .timeout else s

/-- PRESENT_DEADLINE (R161). -/
def execPresentDeadline (s : State) : Host.Outcome State Fault Refusal :=
  s.event fun s =>
    if s.present.deadline.isSome then
      match s.present.state with
      | .collecting => s.endPresent .timeout none
      | .showing => s.endPresent .partially none
      | .idle => s
    else s

end Sys2Proof.Machine
end

