-- ==== Sys2Proof/Machine/Notices.lean ====
section
/-! DEFINITION. The meanings of the notices (chapter 6), each taken whole at the instant its check has arrived (R101). -/

namespace Sys2Proof.Machine

/-- HELLO_NOTICE (R104, R109, R116). -/
def execHelloNotice (k : Link) (seen : Bool) (n : BitVec 3) (capacity restart : Vector Nibble 4) (s : State) :
    Host.Outcome State Fault Refusal :=
  s.event fun s => s.takeHello k seen n capacity restart

/-- ACK_NOTICE (R120, R123). -/
def execAckNotice (k : Link) (q : SeqNo) (s : State) : Host.Outcome State Fault Refusal :=
  s.event fun s => s.notice k fun s => s.takeAck k q

/-- NAK_NOTICE (R121, R123). -/
def execNakNotice (k : Link) (q : SeqNo) (s : State) : Host.Outcome State Fault Refusal :=
  s.event fun s => s.notice k fun s => s.takeNak k q

/-- TILE_STATUS_NOTICE (R142 to R146). -/
def execTileStatusNotice (k : Link) (p : Position) (freed : Byte) (restart : Nibble) (shown : Byte) (s : State) :
    Host.Outcome State Fault Refusal :=
  s.event fun s => s.notice k fun s => s.takeTileStatus k p freed restart shown

/-- REPORT_NOTICE (R50). -/
def execReportNotice (k : Link) (p : Position) (tag : Byte) (capacity : Nibble) (shown : Byte) (restart : Nibble)
    (word : BitVec 32) (s : State) : Host.Outcome State Fault Refusal :=
  s.event fun s => s.notice k fun s => s.takeReport k p tag capacity shown restart word

/-- IDLE_NOTICE (R107, R108): counted for the silence timer and routed to no block. -/
def execIdleNotice (k : Link) (s : State) : Host.Outcome State Fault Refusal := s.event fun s => s.notice k fun s => s

/-- INVALID_NOTICE (R102, R109). -/
def execInvalidNotice (k : Link) (s : State) : Host.Outcome State Fault Refusal := s.event fun s => s.badNotice k

end Sys2Proof.Machine
end

