-- ==== Sys2Proof/Machine/StoreCommands.lean ====
section
/-! DEFINITION. The meanings of the Pixel Window and Fill Engine commands: SET_WINDOW, SET_POINTER, SET_MODE, FILL. -/

namespace Sys2Proof.Machine

/-- Whether parameters i to i + 3 are no rectangle of the store (R5, R16). -/
def badRect (ps : List Word) : Bool :=
  decide (param ps 2 < param ps 0) || decide (param ps 3 < param ps 1) || decide (511 < param ps 2) ||
    decide (511 < param ps 3)

/-- The rectangle of the first four parameters. -/
def paramRect (ps : List Word) : Rect := ⟨paramCoord ps 0, paramCoord ps 1, paramCoord ps 2, paramCoord ps 3⟩

/-- SET_WINDOW (R5): it takes effect now, or after the access in progress; it ends with its latch load. -/
def execSetWindow (s : State) : Host.Outcome State Fault Refusal :=
  s.commandWrite 0x02 4 fun ps s =>
    if badRect ps then s.refuse .range else s.takeWindowOp (.setWindow (paramRect ps))

/-- Whether the point of the first two parameters lies outside the window (R6). -/
def outsideWindow (ps : List Word) (r : Rect) : Bool :=
  decide (param ps 0 < r.x0.val) || decide (r.x1.val < param ps 0) || decide (param ps 1 < r.y0.val) ||
    decide (r.y1.val < param ps 1)

/-- SET_POINTER (R6). -/
def execSetPointer (s : State) : Host.Outcome State Fault Refusal :=
  s.commandWrite 0x03 2 fun ps s =>
    if outsideWindow ps s.window.rect then s.refuse .range
    else s.takeWindowOp (.setPointer (paramCoord ps 0) (paramCoord ps 1))

/-- SET_MODE (R7). -/
def execSetMode (s : State) : Host.Outcome State Fault Refusal :=
  s.commandWrite 0x04 2 fun ps s =>
    if 1 < param ps 0 ∨ 1 < param ps 1 then s.refuse .range
    else s.takeWindowOp (.setMode (if param ps 0 = 0 then .rows else .columns) (param ps 1 == 1))

/-- FILL (R16): the rectangle, the value and a copy of the mask are recorded, and the FILL runs from this instant. -/
def execFill (s : State) : Host.Outcome State Fault Refusal :=
  s.commandWrite 0x05 5 fun ps s =>
    if badRect ps then s.refuse .range
    else
      let r := paramRect ps
      ({ s with fill := { s.fill with
          running := true, rect := r, value := paramWord ps 4, mask := s.window.mask, row := r.y0.val } } :
        State).takeWindowOp .fillStart

end Sys2Proof.Machine
end

