-- ==== Sys2Proof/Machine/MapCommands.lean ====
section
/-! DEFINITION. The meanings of the Band Map commands: CONFIGURE_WALL, MAP_SET, MAP_READ, SET_ROLL_REGION, ROLL. -/

namespace Sys2Proof.Machine

/-- Whether a width is outside 8..512 in steps of 8 (R23, R42). -/
def badWidth (w : Nat) : Bool := w % 8 != 0 || decide (w < 8) || decide (512 < w)

/-- Whether any tile record is enabled (R23). -/
def State.anyEnabled (s : State) : Bool := (List.finRange 16).any fun t => (s.tile t).enabled

/-- CONFIGURE_WALL (R23): the given geometry, every entry BLANK, the roll region at the values of Table 2-1. -/
def execConfigureWall (s : State) : Host.Outcome State Fault Refusal :=
  s.commandWrite 0x01 2 fun ps s =>
    if badWidth (param ps 0) || decide (param ps 1 < 1) || decide (48 < param ps 1) then s.refuse .range
    else if s.anyEnabled then s.refuse .state
    else ({ s with map := { BandMap.hardReset with
        width := param ps 0, bandCount := param ps 1, sweep := s.map.sweep } } : State).complete []

/-- MAP_SET (R28, R29). -/
def execMapSet (s : State) : Host.Outcome State Fault Refusal :=
  s.commandWrite 0x06 3 fun ps s =>
    if s.map.bandCount ≤ param ps 0 ∨ 1 < param ps 1 ∨ (param ps 1 = 1 ∧ 63 < param ps 2) then s.refuse .range
    else
      let entry : Option StoreBand := if param ps 1 = 1 then some (Fin.ofNat 64 (param ps 2)) else none
      s.mapCommand { s.map with entries := s.map.entries.set (Fin.ofNat 48 (param ps 0)) entry }

/-- MAP_READ (R30). -/
def execMapRead (s : State) : Host.Outcome State Fault Refusal :=
  s.commandWrite 0x07 1 fun ps s =>
    if s.map.bandCount ≤ param ps 0 then s.refuse .range
    else s.complete (s.map.readWords (Fin.ofNat 48 (param ps 0)))

/-- SET_ROLL_REGION (R28, R31). -/
def execSetRollRegion (s : State) : Host.Outcome State Fault Refusal :=
  s.commandWrite 0x08 5 fun ps s =>
    if s.map.bandCount < param ps 0 + param ps 1 ∨ param ps 3 < 1 ∨ 64 < param ps 3 ∨ 63 < param ps 2 ∨
        64 < param ps 2 + param ps 3 ∨ param ps 3 ≤ param ps 4 then s.refuse .range
    else s.mapCommand { s.map with
      rollFirst := param ps 0, rollCount := param ps 1, ringBase := param ps 2, ringCount := param ps 3
      origin := param ps 4 }

/-- The origin after a step, in 0..ring count - 1 for negative sums too (R32). -/
def BandMap.rolledOrigin (m : BandMap) (step : Int) : Nat := ((m.origin + step) % (m.ringCount : Int)).toNat

/-- ROLL (R28, R32): the step is a 16-bit two's-complement number (note 2 of Table 11-3). -/
def execRoll (s : State) : Host.Outcome State Fault Refusal :=
  s.commandWrite 0x09 1 fun ps s =>
    let step := (paramWord ps 0).toInt
    if step < -63 ∨ 63 < step then s.refuse .range
    else if s.map.rollCount = 0 then s.refuse .state
    else s.mapCommand { s.map with origin := s.map.rolledOrigin step }

end Sys2Proof.Machine
end

