-- ==== Sys2Proof/Machine/TileCommands.lean ====
section
/-! DEFINITION. The meanings of the tile, query, cell and Walker commands: TILE_SET, TILE_ENABLE, TILE_DISABLE, TILE_READ,
QUERY_TILE, QUERY_READ, CELL_READ, SET_WALKER. -/

namespace Sys2Proof.Machine

/-- The RANGE checks of TILE SET (R42). -/
def badPlacement (ps : List Word) : Bool :=
  decide (15 < param ps 0) || decide (3 < param ps 1) || decide (3 < param ps 2) ||
    param ps 3 % 8 != 0 || decide (504 < param ps 3) || badWidth (param ps 4) ||
    decide (512 < param ps 3 + param ps 4) || decide (47 < param ps 5) ||
    decide (param ps 6 < 1) || decide (48 < param ps 6) || decide (48 < param ps 5 + param ps 6)

/-- TILE_SET (R42). -/
def execTileSet (s : State) : Host.Outcome State Fault Refusal :=
  s.commandWrite 0x0A 7 fun ps s =>
    if badPlacement ps then s.refuse .range
    else if (s.tile (paramTile ps 0)).enabled then s.refuse .state
    else (s.setTile (paramTile ps 0)
      { state := .disabled, link := paramLink ps 1, position := paramLink ps 2, firstColumn := param ps 3
        width := param ps 4, firstBand := param ps 5, bandCount := param ps 6 }).complete []

/-- A tile passes beyond the wall (R43). -/
def BandMap.beyond (m : BandMap) (r : TileRecord) : Bool :=
  decide (m.width < r.firstColumn + r.width) || decide (m.bandCount < r.firstBand + r.bandCount) ||
    r.width == 0 || r.bandCount == 0

/-- Another enabled tile has the link and chain position of tile t (R43). -/
def State.conflicts (s : State) (t : TileIdx) : Bool :=
  (List.finRange 16).any fun u =>
    u != t && (s.tile u).enabled && (s.tile u).link == (s.tile t).link && (s.tile u).position == (s.tile t).position

/-- A tile's link is UP and its chain position present (R39). -/
def State.canBeActive (s : State) (t : TileIdx) : Bool :=
  let r := s.tile t
  (s.link r.link).state == .up && ((s.link r.link).position r.position).present

/-- TILE_ENABLE (R43). -/
def execTileEnable (s : State) : Host.Outcome State Fault Refusal :=
  s.commandWrite 0x0B 1 fun ps s =>
    let t := paramTile ps 0
    if 15 < param ps 0 then s.refuse .range
    else if (s.tile t).enabled then s.refuse .state
    else if s.map.beyond (s.tile t) then s.refuse .geometry
    else if s.conflicts t then s.refuse .conflict
    else
      let active := s.canBeActive t
      (s.setTile t { s.tile t with state := if active then .active else .waiting }).complete [numWord active.toNat]

/-- The selected entry of a link's dispatch in progress is a tile's (R81, R93). -/
def LinkSlice.dispatches (l : LinkSlice) (t : TileIdx) : Bool :=
  match l.engine with
  | .dispatch u _ _ => u == t
  | .idle | .abandonedDispatch | .reRead _ | .givenUpReRead => false

/-- TILE DISABLE of a tile (R44): of an ACTIVE one, its entries leave the queue and the backlog, its records become orphans,
a dispatch of its entry is abandoned and it leaves ACTIVE; of a WAITING one, the state alone changes. -/
def State.disableTile (s : State) (t : TileIdx) : State :=
  let r := s.tile t
  let s := s.setTile t { r with state := .disabled }
  if r.isActive then
    let removed := (s.link r.link).entriesOf t
    let s := if (s.link r.link).dispatches t then s.abandonDispatch r.link else s
    (s.updateLink r.link fun l => (l.removeTile t).orphanTile t).leaveActive [t] removed
  else s

/-- TILE_DISABLE (R44). -/
def execTileDisable (s : State) : Host.Outcome State Fault Refusal :=
  s.commandWrite 0x0C 1 fun ps s =>
    let t := paramTile ps 0
    if 15 < param ps 0 then s.refuse .range
    else if (s.tile t).enabled then (s.disableTile t).complete []
    else s.refuse .state

/-- TILE_READ (R46). -/
def execTileRead (s : State) : Host.Outcome State Fault Refusal :=
  s.commandWrite 0x0D 1 fun ps s =>
    if 15 < param ps 0 then s.refuse .range else s.complete (s.tileReadWords (paramTile ps 0))

/-- A new query of a tile begins (R49). -/
def State.startQuery (s : State) (t : TileIdx) : State :=
  let tag := s.query.tag + 1
  { s.updateLink (s.tile t).link (·.enqueue (.query t tag)) with
    query :=
      { waiting := true, tile := t, tag := tag, outcome := .none, capacity := 0, shown := 0, restart := 0, tileWord := 0
        timeout := some s.timers.queryTimeout } }

/-- QUERY_TILE (R49). -/
def execQueryTile (s : State) : Host.Outcome State Fault Refusal :=
  s.commandWrite 0x0E 1 fun ps s =>
    let t := paramTile ps 0
    if 15 < param ps 0 then s.refuse .range
    else if !(s.tile t).isActive then s.refuse .state
    else if s.query.waiting then s.refuse .busy
    else if !(s.link (s.tile t).link).hasRoom then s.refuse .busy
    else (s.startQuery t).complete [numWord (s.query.tag + 1).toNat]

/-- QUERY_READ (R53). -/
def execQueryRead (s : State) : Host.Outcome State Fault Refusal :=
  s.commandWrite 0x0F 0 fun _ s => s.complete s.query.words

/-- CELL_READ (R76). -/
def execCellRead (s : State) : Host.Outcome State Fault Refusal :=
  s.commandWrite 0x10 2 fun ps s =>
    if 15 < param ps 0 ∨ 47 < param ps 1 then s.refuse .range
    else s.complete (s.cellReadWords (paramTile ps 0) (Fin.ofNat 48 (param ps 1)))

/-- SET_WALKER (R75). -/
def execSetWalker (s : State) : Host.Outcome State Fault Refusal :=
  s.commandWrite 0x11 1 fun ps s =>
    if 1 < param ps 0 then s.refuse .range
    else ({ s with walker.mode := if param ps 0 = 0 then .auto else .manual } : State).complete []

end Sys2Proof.Machine
end

