-- ==== Sys2Proof/Machine/LinkCommands.lean ====
section
/-! DEFINITION. The meanings of LINK_ENABLE, LINK_DISABLE, LINK_RESET, LINK_CLEAR_FLAGS and SET_TIMER. -/

namespace Sys2Proof.Machine

/-- A command that names a link as its one parameter (section 7.7): RANGE when it exceeds 3. -/
def State.linkCommand (s : State) (code : Byte) (body : Link → State → State) : Host.Outcome State Fault Refusal :=
  s.commandWrite code 1 fun ps s => if 3 < param ps 0 then s.refuse .range else body (paramLink ps 0) s

/-- An attempt with the attempt count at 0 (R115). -/
def State.freshAttempt (s : State) (k : Link) : State :=
  (s.updateLink k fun l => { l with attemptCount := 0 }).beginAttempt k

/-- LINK_ENABLE (R132). -/
def execLinkEnable (s : State) : Host.Outcome State Fault Refusal :=
  s.linkCommand 0x12 fun k s =>
    match (s.link k).state with
    | .off => (s.freshAttempt k).complete []
    | .training => s.refuse .state
    | .up => s.refuse .state
    | .fault => s.refuse .state

/-- A link that is not UP goes to OFF (R133): its attempt ends, partner heard is no, the frame being sent is cut off. -/
def LinkSlice.switchOff (l : LinkSlice) : LinkSlice :=
  { l.endAttempt.cutOff with state := .off, partnerHeard := false }

/-- LINK_DISABLE (R133). -/
def execLinkDisable (s : State) : Host.Outcome State Fault Refusal :=
  s.linkCommand 0x13 fun k s =>
    match (s.link k).state with
    | .off => s.complete []
    | .training => (s.updateLink k (·.switchOff)).complete []
    | .fault => (s.updateLink k (·.switchOff)).complete []
    | .up => (s.loseLink k .host true).complete []

/-- LINK_RESET (R134). -/
def execLinkReset (s : State) : Host.Outcome State Fault Refusal :=
  s.linkCommand 0x14 fun k s =>
    match (s.link k).state with
    | .off => s.refuse .state
    | .training => (s.freshAttempt k).complete []
    | .fault => (s.freshAttempt k).complete []
    | .up => (s.loseLink k .host false).complete []

/-- LINK_CLEAR_FLAGS (R135). -/
def execLinkClearFlags (s : State) : Host.Outcome State Fault Refusal :=
  s.linkCommand 0x15 fun k s => (s.updateLink k (·.clearFlags)).complete []

/-- The range of a setting, by its selector (Table 11-5). -/
def timerRange : Nat → Nat × Nat
  | 0 => (1, 255)
  | 1 => (1, 7)
  | 2 => (1, 255)
  | 3 => (1, 255)
  | 4 => (1, 15)
  | 5 => (0, 65535)
  | _ => (1, 255)

/-- A setting written by its selector (Table 11-5). -/
def TimerSettings.write (t : TimerSettings) : Nat → Nat → TimerSettings
  | 0, v => { t with replayTimeout := v }
  | 1, v => { t with replayLimit := v }
  | 2, v => { t with silenceTimeout := v }
  | 3, v => { t with attemptTime := v }
  | 4, v => { t with attemptLimit := v }
  | 5, v => { t with presentDeadline := v }
  | _, v => { t with queryTimeout := v }

/-- SET_TIMER (R183). -/
def execSetTimer (s : State) : Host.Outcome State Fault Refusal :=
  s.commandWrite 0x19 2 fun ps s =>
    if 6 < param ps 0 then s.refuse .range
    else if param ps 1 < (timerRange (param ps 0)).1 ∨ (timerRange (param ps 0)).2 < param ps 1 then s.refuse .range
    else ({ s with timers := s.timers.write (param ps 0) (param ps 1) } : State).complete []

end Sys2Proof.Machine
end

