-- ==== Sys2Proof/Machine/PresentCommands.lean ====
section
/-! DEFINITION. The meanings of PRESENT, CANCEL_PRESENT and PRESENT_READ. -/

namespace Sys2Proof.Machine

/-- Whether any tile is ACTIVE (R152). -/
def State.anyActive (s : State) : Bool := (List.finRange 16).any fun t => (s.tile t).isActive

/-- PRESENT (R152): it completes at the cut with the new present number. -/
def execPresent (s : State) : Host.Outcome State Fault Refusal :=
  s.commandWrite 0x16 0 fun _ s =>
    match s.present.state with
    | .collecting => s.refuse .busy
    | .showing => s.refuse .busy
    | .idle => if s.anyActive then s.cut.complete [numWord (s.present.number + 1).toNat] else s.refuse .noTiles

/-- CANCEL_PRESENT (R162). -/
def execCancelPresent (s : State) : Host.Outcome State Fault Refusal :=
  s.commandWrite 0x17 0 fun _ s =>
    match s.present.state with
    | .collecting => (s.endPresent .cancelled none).complete []
    | .showing => s.refuse .tooLate
    | .idle => s.refuse .state

/-- PRESENT_READ (R167). -/
def execPresentRead (s : State) : Host.Outcome State Fault Refusal :=
  s.commandWrite 0x18 0 fun _ s => s.complete s.present.words

end Sys2Proof.Machine
end

