-- ==== Sys2Proof/Machine/Dispatch.lean ====
section
/-! DEFINITION. One arm for each command, each one call of its meaning. -/

namespace Sys2Proof.Machine

def exec (i : Instr) (s : State) : Host.Outcome State Fault Refusal :=
  match i with
  | .hardReset => Sys2Proof.Machine.execHardReset s
  | .hardResetEnd => Sys2Proof.Machine.execHardResetEnd s
  | .startUpClearRow => Sys2Proof.Machine.execStartUpClearRow s
  | .pixelWrite v => Sys2Proof.Machine.execPixelWrite v s
  | .pixelRead => Sys2Proof.Machine.execPixelRead s
  | .windowWriteLanding => Sys2Proof.Machine.execWindowWriteLanding s
  | .latchLoad => Sys2Proof.Machine.execLatchLoad s
  | .fillRow => Sys2Proof.Machine.execFillRow s
  | .remapSweepPass => Sys2Proof.Machine.execRemapSweepPass s
  | .walkerExamination => Sys2Proof.Machine.execWalkerExamination s
  | .dispatchSelection k => Sys2Proof.Machine.execDispatchSelection k s
  | .captureGrantEnd k => Sys2Proof.Machine.execCaptureGrantEnd k s
  | .transmissionEnd k => Sys2Proof.Machine.execTransmissionEnd k s
  | .helloInterval k => Sys2Proof.Machine.execHelloInterval k s
  | .attemptTimeout k => Sys2Proof.Machine.execAttemptTimeout k s
  | .helloNotice k seen n capacity restart => Sys2Proof.Machine.execHelloNotice k seen n capacity restart s
  | .ackNotice k q => Sys2Proof.Machine.execAckNotice k q s
  | .nakNotice k q => Sys2Proof.Machine.execNakNotice k q s
  | .tileStatusNotice k p freed restart shown => Sys2Proof.Machine.execTileStatusNotice k p freed restart shown s
  | .reportNotice k p tag capacity shown restart word => Sys2Proof.Machine.execReportNotice k p tag capacity shown restart word s
  | .idleNotice k => Sys2Proof.Machine.execIdleNotice k s
  | .invalidNotice k => Sys2Proof.Machine.execInvalidNotice k s
  | .replayTimeout k => Sys2Proof.Machine.execReplayTimeout k s
  | .replayRetransmission k => Sys2Proof.Machine.execReplayRetransmission k s
  | .reReadGrantEnd k => Sys2Proof.Machine.execReReadGrantEnd k s
  | .silenceTimeout k => Sys2Proof.Machine.execSilenceTimeout k s
  | .queryTimeout => Sys2Proof.Machine.execQueryTimeout s
  | .presentDeadline => Sys2Proof.Machine.execPresentDeadline s
  | .parameterWrite v => Sys2Proof.Machine.execParameterWrite v s
  | .resultRead => Sys2Proof.Machine.execResultRead s
  | .commandStatusRead => Sys2Proof.Machine.execCommandStatusRead s
  | .attentionRead => Sys2Proof.Machine.execAttentionRead s
  | .writeMaskWrite v => Sys2Proof.Machine.execWriteMaskWrite v s
  | .interruptEnableWrite v => Sys2Proof.Machine.execInterruptEnableWrite v s
  | .registerWrite location v => Sys2Proof.Machine.execRegisterWrite location v s
  | .unknownCommand code => Sys2Proof.Machine.execUnknownCommand code s
  | .configureWall => Sys2Proof.Machine.execConfigureWall s
  | .setWindow => Sys2Proof.Machine.execSetWindow s
  | .setPointer => Sys2Proof.Machine.execSetPointer s
  | .setMode => Sys2Proof.Machine.execSetMode s
  | .fill => Sys2Proof.Machine.execFill s
  | .mapSet => Sys2Proof.Machine.execMapSet s
  | .mapRead => Sys2Proof.Machine.execMapRead s
  | .setRollRegion => Sys2Proof.Machine.execSetRollRegion s
  | .roll => Sys2Proof.Machine.execRoll s
  | .tileSet => Sys2Proof.Machine.execTileSet s
  | .tileEnable => Sys2Proof.Machine.execTileEnable s
  | .tileDisable => Sys2Proof.Machine.execTileDisable s
  | .tileRead => Sys2Proof.Machine.execTileRead s
  | .queryTile => Sys2Proof.Machine.execQueryTile s
  | .queryRead => Sys2Proof.Machine.execQueryRead s
  | .cellRead => Sys2Proof.Machine.execCellRead s
  | .setWalker => Sys2Proof.Machine.execSetWalker s
  | .linkEnable => Sys2Proof.Machine.execLinkEnable s
  | .linkDisable => Sys2Proof.Machine.execLinkDisable s
  | .linkReset => Sys2Proof.Machine.execLinkReset s
  | .linkClearFlags => Sys2Proof.Machine.execLinkClearFlags s
  | .present => Sys2Proof.Machine.execPresent s
  | .cancelPresent => Sys2Proof.Machine.execCancelPresent s
  | .presentRead => Sys2Proof.Machine.execPresentRead s
  | .setTimer => Sys2Proof.Machine.execSetTimer s
  | .softReset => Sys2Proof.Machine.execSoftReset s

end Sys2Proof.Machine
end

