-- ==== Sys2Proof/Machine/Frames.lean ====
section
/-! DEFINITION. Frames and notices as bytes and symbols (R188, R189): the two checks, the bytes of a frame and the symbols
sent for it, the notice command that a received unit is (R102), and the receiver, which assembles notices (R101, R110). -/

namespace Sys2Proof.Machine

/-- One bit of a CRC register: shift left, and the generator when a 1 falls out. -/
def crcShift {n : Nat} (generator reg : BitVec n) : BitVec n :=
  if reg.msb then (reg <<< 1) ^^^ generator else reg <<< 1

/-- One byte into a CRC register, most significant bit first. -/
def crcByte {n : Nat} (generator reg : BitVec n) (b : Byte) : BitVec n :=
  (List.range 8).foldl (fun r _ => crcShift generator r) (reg ^^^ (b.setWidth n <<< (n - 8)))

/-- The 32-bit check of a frame: generator 04C11DB7h, preset to ones, inverted (R188). -/
def crc32 (bytes : List Byte) : BitVec 32 := ~~~ bytes.foldl (crcByte 0x04C11DB7#32) 0xFFFFFFFF#32

/-- The 16-bit check of a notice: generator 1021h, preset to ones, not inverted (R188). -/
def crc16 (bytes : List Byte) : BitVec 16 := bytes.foldl (crcByte 0x1021#16) 0xFFFF#16

/-- A 16-bit field, most significant byte first (R188). -/
def wordBytes (w : Word) : List Byte := [w.extractLsb' 8 8, w.extractLsb' 0 8]

/-- Bytes 1 and 2 of every sequenced frame (Table 11-9). -/
def sequenceWord (seq : SeqNo) (position : Position) (hold : Bool) : Word :=
  pack [field 14 2 position.val, flag 13 hold, field 0 12 seq.toNat]

/-- The bytes of a frame from its kind to its last field or payload byte (Table 11-9). DESIGN CHOICE: bits 7..1 of byte 1 of a
HELLO, to which the table gives no field and no value, are sent as 0 (assumption 34; unsafe). -/
def Frame.body : Frame → List Byte
  | .hello seen => [0x01, if seen then 1 else 0]
  | .sequenced q p h (.band w _ column width) payload =>
    [0x02] ++ wordBytes (sequenceWord q p h) ++ [BitVec.ofNat 8 w.val] ++ wordBytes (numWord column) ++
      wordBytes (numWord width) ++ payload.flatMap wordBytes
  | .sequenced q p h (.blank w) _ => [0x03] ++ wordBytes (sequenceWord q p h) ++ [BitVec.ofNat 8 w.val]
  | .sequenced q p h (.showTile n) _ => [0x04] ++ wordBytes (sequenceWord q p h) ++ [n]
  | .sequenced q p h (.query g) _ => [0x05] ++ wordBytes (sequenceWord q p h) ++ [g]

/-- A frame on the line, its check last, most significant byte first (R96, R188). -/
def Frame.bytes (f : Frame) : List Byte :=
  let c := crc32 f.body
  f.body ++ [c.extractLsb' 24 8, c.extractLsb' 16 8, c.extractLsb' 8 8, c.extractLsb' 0 8]

/-! ## The symbols sent (R188) -/

/-- A symbol of a link (R188). -/
inductive Symbol where
  | start
  | fill
  | data (b : Byte)
  deriving DecidableEq, Repr

/-- The symbols a frame is sent as: START, then its bytes. -/
def Frame.symbols (f : Frame) : List Symbol := .start :: f.bytes.map .data

/-- The symbols of a frame cut off when n of its bytes have been sent (R92): the FILL stands before the end of its check. -/
def Frame.cutSymbols (f : Frame) (n : Nat) : List Symbol := .start :: (f.bytes.take n).map .data ++ [.fill]

/-- What a transmitter sends: the frame handed to it, and line fill whenever it is sending none. -/
def Transmitter.symbols (tx : Transmitter) : List Symbol :=
  match tx.sending with
  | some f => f.symbols
  | none => [.fill]

/-! ## Notices -/

/-- The length of a notice of a known kind, its check included (Table 11-10). -/
def noticeLength (kind : Byte) : Option Nat :=
  match kind.toNat with
  | 0x81 => some 8
  | 0x82 => some 5
  | 0x83 => some 5
  | 0x84 => some 6
  | 0x85 => some 11
  | 0x86 => some 3
  | _ => none

/-- The low nibble and the high nibble of a byte. -/
def lowNibble (b : Byte) : Nibble := b.extractLsb' 0 4
def highNibble (b : Byte) : Nibble := b.extractLsb' 4 4

/-- The position in bits 1..0 of a byte. -/
def positionOf (b : Byte) : Position := Fin.ofNat 4 (b.extractLsb' 0 2).toNat

/-- The sequence number in the low 12 bits of two bytes (R189). -/
def seqOf (hi lo : Byte) : SeqNo := (hi ++ lo).extractLsb' 0 12

/-- A received unit's check is good: its last two bytes are the CRC of those before (R188). -/
def goodCheck (bytes : List Byte) : Bool :=
  bytes.drop (bytes.length - 2) == wordBytes (crc16 (bytes.take (bytes.length - 2)))

/-- The notice command of a received unit (R102, R189): a valid notice by its kind, and INVALID_NOTICE for a unit with a bad
check, an unknown kind, a wrong length, or a HELLO that is not well formed (R104). -/
def noticeCommand (k : Link) (bytes : List Byte) : Instr :=
  if goodCheck bytes then
    match bytes with
    | [0x81, b1, p0, p1, p2, p3, _, _] =>
      let capacity : Vector Nibble 4 := #v[highNibble p0, highNibble p1, highNibble p2, highNibble p3]
      if helloWellFormed (b1.extractLsb' 0 3) capacity then
        .helloNotice k b1.msb (b1.extractLsb' 0 3) capacity #v[lowNibble p0, lowNibble p1, lowNibble p2, lowNibble p3]
      else .invalidNotice k
    | [0x82, hi, lo, _, _] => .ackNotice k (seqOf hi lo)
    | [0x83, hi, lo, _, _] => .nakNotice k (seqOf hi lo)
    | [0x84, b1, freed, shown, _, _] => .tileStatusNotice k (positionOf b1) freed (highNibble b1) shown
    | [0x85, b1, tag, shown, b4, w3, w2, w1, w0, _, _] =>
      .reportNotice k (positionOf b1) tag (highNibble b1) shown (lowNibble b4) (w3 ++ w2 ++ w1 ++ w0)
    | [0x86, _, _] => .idleNotice k
    | _ => .invalidNotice k
  else .invalidNotice k

/-! ## The receiver -/

/-- The receiver takes one symbol (R188): the bytes of the unit it is assembling, if any, and the unit the symbol ends, if it
ends one. Bytes outside a unit are ignored. -/
def receiveSymbol : Option (List Byte) → Symbol → Option (List Byte) × Option (List Byte)
  | none, .start => (some [], none)
  | none, .fill => (none, none)
  | none, .data _ => (none, none)
  | some bytes, .start => (some [], some bytes)
  | some bytes, .fill => (none, some bytes)
  | some bytes, .data b =>
    let bytes := bytes ++ [b]
    match bytes.head?.bind noticeLength with
    | some n => if bytes.length = n then (none, some bytes) else (some bytes, none)
    | none => (some bytes, none)

/-- The units that a run of symbols completes, in their order, from a receiver that is assembling none. -/
def receivedUnits (symbols : List Symbol) : List (List Byte) :=
  (symbols.foldl (fun (acc : Option (List Byte) × List (List Byte)) y =>
    let r := receiveSymbol acc.1 y
    (r.1, acc.2 ++ r.2.toList)) (none, [])).2

/-- Link k receives one symbol (R101, R188): the notice in progress grows, begins or ends, and a unit that ends is taken in
that instant as its notice command, routed by the state then in force (R110). Nothing is received while nRESET is low. The
table has no row for a symbol (assumption 21). -/
def State.receive (k : Link) (y : Symbol) (s : State) : Host.Outcome State Fault Refusal :=
  if s.nReset then
    let r := receiveSymbol (s.link k).receiving y
    let s := s.updateLink k fun l => { l with receiving := r.1 }
    match r.2 with
    | some bytes => exec (noticeCommand k bytes) s
    | none => .next s
  else .next s

/-- Link k receives symbols, one after another. -/
def State.receiveAll (k : Link) : List Symbol → State → Host.Outcome State Fault Refusal
  | [], s => .next s
  | y :: rest, s =>
    match s.receive k y with
    | .next t => State.receiveAll k rest t
    | .fault f => .fault f
    | .refused r => .refused r

end Sys2Proof.Machine
end

