-- ==== Sys2Proof/Machine/HostBus.lean ====
section
/-! DEFINITION. The command that a host write or read of a location is (Table 11-1, Table 11-3), the reads that are no command, and
the end of a host cycle before READY rises (R21). -/

namespace Sys2Proof.Machine

/-- The command of a code written to COMMAND (Table 11-3). -/
def commandOf (code : Word) : Instr :=
  match code.toNat with
  | 0x01 => .configureWall
  | 0x02 => .setWindow
  | 0x03 => .setPointer
  | 0x04 => .setMode
  | 0x05 => .fill
  | 0x06 => .mapSet
  | 0x07 => .mapRead
  | 0x08 => .setRollRegion
  | 0x09 => .roll
  | 0x0A => .tileSet
  | 0x0B => .tileEnable
  | 0x0C => .tileDisable
  | 0x0D => .tileRead
  | 0x0E => .queryTile
  | 0x0F => .queryRead
  | 0x10 => .cellRead
  | 0x11 => .setWalker
  | 0x12 => .linkEnable
  | 0x13 => .linkDisable
  | 0x14 => .linkReset
  | 0x15 => .linkClearFlags
  | 0x16 => .present
  | 0x17 => .cancelPresent
  | 0x18 => .presentRead
  | 0x19 => .setTimer
  | 0x1A => .softReset
  | _ => .unknownCommand code

/-- The command of a host write of a word to a location (Table 11-1). -/
def hostWrite (a : Fin 32) (v : Word) : Instr :=
  match a.val with
  | 0x00 => .registerWrite .idVendor v
  | 0x01 => .registerWrite .idPart v
  | 0x02 => .registerWrite .idRevision v
  | 0x03 => .registerWrite .deviceStatus v
  | 0x04 => commandOf v
  | 0x05 => .parameterWrite v
  | 0x06 => .registerWrite .result v
  | 0x07 => .registerWrite .commandStatus v
  | 0x08 => .pixelWrite v
  | 0x09 => .writeMaskWrite v
  | 0x0A => .registerWrite .windowStatus v
  | 0x0B => .registerWrite .presentStatus v
  | 0x0C => .registerWrite .presentRemaining v
  | 0x0D => .registerWrite .attention v
  | 0x0E => .registerWrite .attentionCount v
  | 0x0F => .interruptEnableWrite v
  | 0x10 => .registerWrite .interruptPending v
  | 0x11 => .registerWrite (.linkStatus 0) v
  | 0x12 => .registerWrite (.linkStatus 1) v
  | 0x13 => .registerWrite (.linkStatus 2) v
  | 0x14 => .registerWrite (.linkStatus 3) v
  | n => .registerWrite (.unused (Fin.ofNat 11 (n - 0x15))) v

/-- The command of a host read that has an effect on its location (Table 11-1). Every other read is `State.hostReads` alone. -/
def hostRead (a : Fin 32) : Option Instr :=
  match a.val with
  | 0x06 => some .resultRead
  | 0x07 => some .commandStatusRead
  | 0x08 => some .pixelRead
  | 0x0D => some .attentionRead
  | _ => none

/-- The host reads a location: the command of that read, or, at a location whose read has no effect on it, the word alone
(R176, R185). Such a read too ends a PIXEL DATA cycle still stretched (R21). -/
def State.hostReads (a : Fin 32) (s : State) : Host.Outcome State Fault Refusal :=
  match hostRead a with
  | some c => exec c s
  | none => s.access fun s => s.deliver (s.readLocation a)

/-- The host ends the cycle it holds, before READY has risen and with no further access (R21): READY is no longer held low, a
read so ended delivers no defined value, and the access that was taken is still carried out. The table has no row for it
(assumption 6). -/
def State.hostEndsCycle (s : State) : State := if s.nReset then s.hostAccess else s

end Sys2Proof.Machine
end

