-- ==== Sys2Proof/WellFormed.lean ====
section
/-! DEFINITION. Which commands are well formed. The operand types already hold every range of the table's operands, so the
one check left is that an UNKNOWN_COMMAND carries a code that Table 11-3 does not list (R179). -/

namespace Sys2Proof

/-- The well-formed commands. A HELLO whose fields R104 refuses is a well-formed command: the receiver examines it. -/
def Instr.WellFormed : Instr → Bool
  | .unknownCommand code => !Config.listedCode code
  | .hardReset | .hardResetEnd | .startUpClearRow | .pixelWrite _ | .pixelRead | .windowWriteLanding | .latchLoad
  | .fillRow | .remapSweepPass | .walkerExamination | .dispatchSelection _ | .captureGrantEnd _ | .transmissionEnd _
  | .helloInterval _ | .attemptTimeout _ | .helloNotice .. | .ackNotice .. | .nakNotice .. | .tileStatusNotice ..
  | .reportNotice .. | .idleNotice _ | .invalidNotice _ | .replayTimeout _ | .replayRetransmission _
  | .reReadGrantEnd _ | .silenceTimeout _ | .queryTimeout | .presentDeadline | .parameterWrite _ | .resultRead
  | .commandStatusRead | .attentionRead | .writeMaskWrite _ | .interruptEnableWrite _ | .registerWrite ..
  | .configureWall | .setWindow | .setPointer | .setMode | .fill | .mapSet | .mapRead | .setRollRegion | .roll
  | .tileSet | .tileEnable | .tileDisable | .tileRead | .queryTile | .queryRead | .cellRead | .setWalker
  | .linkEnable | .linkDisable | .linkReset | .linkClearFlags | .present | .cancelPresent | .presentRead | .setTimer
  | .softReset => true

end Sys2Proof
end

