-- ==== Sys2Proof/Safety.lean ====
section
/-! DEFINITION. What a safe state is, in the terms the statements use: the invariants the manual states of its own tables,
one for each group of blocks, and the small predicates over commands that the statements share. -/

namespace Sys2Proof.Safety

open Sys2Proof.Machine

/-! ## The store and the FIFOs -/

/-- The store's byte list is in canonical form. -/
def StoreForm (s : State) : Prop := Memory.wf s.store = true

/-- No FIFO holds more than its depth (R178, R181, R168, R171). -/
def FifosBounded (s : State) : Prop :=
  s.cu.params.length ≤ 8 ∧ s.cu.results.length ≤ 8 ∧ s.attention.records.length ≤ 16 ∧ s.attention.readOut.length ≤ 2

/-! ## The wall and the tiles -/

/-- Table 2-1 and R25: the ranges of the wall geometry and of the roll region. -/
def MapSound (m : BandMap) : Prop :=
  m.width % 8 = 0 ∧ m.width ≤ 512 ∧ m.bandCount ≤ 48 ∧
  (m.rollCount ≠ 0 → m.rollFirst + m.rollCount ≤ m.bandCount) ∧
  1 ≤ m.ringCount ∧ m.ringCount ≤ 64 ∧ m.ringBase + m.ringCount ≤ 64 ∧ m.origin < m.ringCount

/-- R38, R43: an enabled tile lies inside the wall, and no two enabled tiles share a link and chain position. -/
def TilesPlaced (s : State) : Prop :=
  (∀ t : TileIdx, (s.tile t).enabled = true → s.map.beyond (s.tile t) = false) ∧
  (∀ t u : TileIdx, t ≠ u → (s.tile t).enabled = true → (s.tile u).enabled = true →
    ¬((s.tile t).link = (s.tile u).link ∧ (s.tile t).position = (s.tile u).position))

/-- The wall and the tiles on it are as R25, R38 and R43 say. -/
def WallSound (s : State) : Prop := MapSound s.map ∧ TilesPlaced s

/-! ## The window side and the Command Unit -/

/-- Whether a held operation belongs to a command that holds the unit BUSY. -/
def heldCommand : HeldOp → Bool
  | .setWindow _ | .setPointer .. | .setMode .. | .fillStart => true
  | .pixelWrite _ | .pixelRead => false

/-- Whether the window side's operation belongs to a command that holds the unit BUSY. -/
def opCommand : WindowOp → Bool
  | .latchLoad .command | .latchLoad .fillEnd | .fillRow => true
  | .latchLoad .access | .latchLoad .clearEnd | .idle | .pixelWrite _ | .clearRow => false

/-- Whether the window side's operation belongs to the start-up clear (R2). -/
def opClear : WindowOp → Bool
  | .clearRow | .latchLoad .clearEnd => true
  | .latchLoad .access | .latchLoad .command | .latchLoad .fillEnd | .idle | .pixelWrite _ | .fillRow => false

/-- Whether the window side's operation belongs to a FILL (R17, R18). -/
def opFill : WindowOp → Bool
  | .fillRow | .latchLoad .fillEnd => true
  | .latchLoad .access | .latchLoad .command | .latchLoad .clearEnd | .idle | .pixelWrite _ | .clearRow => false

/-- How many taken commands are still being carried out: held, on the window side, or as a remap sweep. -/
def commandsInProgress (s : State) : Nat :=
  s.window.held.countP heldCommand + (opCommand s.window.op).toNat + s.map.sweep.isSome.toNat

/-- The unit is BUSY exactly while one taken command is being carried out (R180, R181). -/
def OneCommand (s : State) : Prop := commandsInProgress s = s.cu.busy.toNat

/-- A rectangle whose corners are in order (R4). -/
def RectOrdered (r : Rect) : Prop := r.x0 ≤ r.x1 ∧ r.y0 ≤ r.y1

/-- A store position inside a rectangle. -/
def Inside (r : Rect) (x y : Coord) : Prop := r.x0 ≤ x ∧ x ≤ r.x1 ∧ r.y0 ≤ y ∧ y ≤ r.y1

/-- What a held command will set is fit to be set. -/
def HeldFit (r : Rect) : HeldOp → Prop
  | .setWindow r' => RectOrdered r'
  | .setPointer x y => Inside r x y
  | .setMode .. | .fillStart | .pixelWrite _ | .pixelRead => True

/-- R4: the window's corners are in order and the pointer lies inside the window. -/
def PointerInWindow (s : State) : Prop := RectOrdered s.window.rect ∧ Inside s.window.rect s.window.x s.window.y

/-- The window side with R4, one command at a time, the FILL that runs, and the start-up clear while NOT_READY (R2, R12,
R13). -/
def WindowSound (s : State) : Prop :=
  PointerInWindow s ∧ OneCommand s ∧
  (∀ h ∈ s.window.held, HeldFit s.window.rect h) ∧
  (s.window.op = .idle → s.window.held = []) ∧
  (s.fill.running = (opFill s.window.op || s.window.held.contains .fillStart)) ∧
  (s.notReady = (opClear s.window.op || !s.nReset)) ∧
  (s.nReset = false → s.window.op = .idle)

/-! ## The Store Arbiter -/

/-- R19: a requester has one request at most, waiting or granted, exactly while it has something to do with the store; and
an idle store has nobody waiting. -/
def ArbiterSound (s : State) : Prop :=
  (s.arbiter.holder = some .window → s.arbiter.windowWaiting = false) ∧
  (s.window.op ≠ .idle ↔ s.arbiter.holder = some .window ∨ s.arbiter.windowWaiting = true) ∧
  (∀ k : Link,
    (s.arbiter.holder = some (.capture k) → s.arbiter.captureWaiting[k] = false) ∧
    ((s.link k).engine ≠ .idle ↔ s.arbiter.holder = some (.capture k) ∨ s.arbiter.captureWaiting[k] = true) ∧
    ((s.link k).engine = .abandonedDispatch ∨ (s.link k).engine = .givenUpReRead →
      s.arbiter.holder = some (.capture k))) ∧
  (s.arbiter.holder = none → s.arbiter.windowWaiting = false ∧ ∀ k : Link, s.arbiter.captureWaiting[k] = false)

/-! ## Links, queues and hold lists -/

/-- A position record of a link that is not UP (R148). -/
def PositionAbsent (p : PositionRecord) : Prop := p.present = false ∧ p.credit = 0 ∧ p.outstanding = 0

/-- A link that is not UP has no work (R77, R114, R131, R148). -/
def LinkIdle (l : LinkSlice) : Prop :=
  l.queue = [] ∧ l.backlog = [] ∧ l.hold = [] ∧ l.replayPoint = none ∧ (∀ p, PositionAbsent (l.position p)) ∧
    (l.engine = .idle ∨ l.engine = .abandonedDispatch ∨ l.engine = .givenUpReRead)

/-- R91: the sequence numbers of a hold list are consecutive and end one below the next one. -/
def HoldConsecutive (l : LinkSlice) : Prop :=
  ∀ i : Fin l.hold.length, l.hold[i].seq = l.nextSeq - BitVec.ofNat 12 (l.hold.length - i.val)

/-- What Table 7-1, R77, R80 and R84 say of one link. -/
def LinkSound (l : LinkSlice) : Prop :=
  (l.state ≠ .up → LinkIdle l) ∧
  (l.attemptTimer.isSome = (l.state == .training)) ∧ (l.helloInterval = (l.state == .training)) ∧
  (l.silenceTimer.isSome = (l.state == .up)) ∧ (l.replayTimer.isSome = !l.hold.isEmpty) ∧
  l.queue.length ≤ 32 ∧ (l.backlog ≠ [] → l.queue.length = 32) ∧ (∀ e ∈ l.backlog, ∃ t n, e = .showTile t n) ∧
  l.hold.length ≤ 16 ∧ HoldConsecutive l ∧
  (∀ q, l.replayPoint = some q → ∃ r ∈ l.hold, r.seq = q) ∧
  (∀ t w b, l.engine = .dispatch t w b → Entry.cell t w ∈ l.queue ∧ l.hold.length < 16)

/-- R39: an enabled tile is ACTIVE exactly when its link is UP and its chain position present. -/
def TileStatesSound (s : State) : Prop :=
  ∀ t : TileIdx, (s.tile t).enabled = true → (s.tile t).isActive = s.canBeActive t

/-- R77: an entry of a link's queue or backlog names a tile that is ACTIVE on that link. -/
def EntriesActive (s : State) : Prop :=
  ∀ k : Link, ∀ e ∈ (s.link k).queue ++ (s.link k).backlog, (s.tile e.tile).isActive = true ∧ (s.tile e.tile).link = k

/-- R159, R160: a participant of a running present is ACTIVE until it has left or has joined the shown set. -/
def ParticipantsActive (s : State) : Prop :=
  ∀ t : TileIdx, TileSet.has s.present.participants t = true →
    (s.present.state = .collecting ∨ s.present.state = .showing ∧ TileSet.has s.present.shown t = false) →
    (s.tile t).isActive = true

/-- The links, the tiles on them, their queues and the participants of a present agree. -/
def LinksSound (s : State) : Prop :=
  (∀ k : Link, LinkSound (s.link k)) ∧ TileStatesSound s ∧ EntriesActive s ∧ ParticipantsActive s

/-! ## Credit -/

/-- R139 for one record: credit and outstanding make up the capacity of a present position, and are 0 at an absent one. -/
def CreditLaw (p : PositionRecord) : Prop :=
  if p.present then p.credit + p.outstanding = p.capacity else p.credit = 0 ∧ p.outstanding = 0

/-- The chain position of a tile has credit on a link (R85). -/
def CreditAt (s : State) (k : Link) (t : TileIdx) : Prop := 1 ≤ ((s.link k).position (s.tile t).position).credit

/-- R139 everywhere, and R85: a dispatch in progress has its credit. -/
def CreditSound (s : State) : Prop :=
  (∀ (k : Link) (p : Position), CreditLaw ((s.link k).position p)) ∧
  (∀ (k : Link) t w b, (s.link k).engine = .dispatch t w b → CreditAt s k t)

/-! ## Cells -/

/-- The wall band a hold record carries a cell for, if its kind carries one. -/
def bodyBand : HoldBody → Option WallBand
  | .band w _ _ _ => some w
  | .blank w => some w
  | .showTile _ => none
  | .query _ => none

/-- Whether a hold record is a live record of the cell (t, w). -/
def liveRecordOf (t : TileIdx) (w : WallBand) (r : HoldRecord) : Bool :=
  !r.orphan && r.tile == t && bodyBand r.body == some w

/-- Whether a cell state is INFLIGHT or INFLIGHT_STALE. -/
def inFlight : CellState → Bool
  | .inflight | .inflightStale => true
  | .clean | .stale | .queued => false

/-- R54, R55: a record that is no cell of an ACTIVE tile is STALE and unmarked. -/
def OtherCellsStale (s : State) : Prop :=
  ∀ (t : TileIdx) (w : WallBand), ((s.tile t).isActive && (s.tile t).hasBand w) = false → s.cell t w = ⟨.stale, false⟩

/-- R56: an ACTIVE tile's cell is QUEUED exactly when its link's queue holds one CELL entry for it, and in flight exactly
when the hold list holds one live record of it. -/
def OneWorkPerCell (s : State) : Prop :=
  ∀ (t : TileIdx) (w : WallBand), (s.tile t).isActive = true → (s.tile t).hasBand w = true →
    (s.link (s.tile t).link).queue.count (.cell t w) = ((s.cell t w).state == .queued).toNat ∧
    (s.link (s.tile t).link).hold.countP (liveRecordOf t w) = (inFlight (s.cell t w).state).toNat

/-- A live record names an ACTIVE tile of the link, its chain position, and a cell of it. -/
def LiveRecordsPlaced (s : State) : Prop :=
  ∀ k : Link, ∀ r ∈ (s.link k).hold, r.orphan = false →
    (s.tile r.tile).isActive = true ∧ (s.tile r.tile).link = k ∧ (s.tile r.tile).position = r.position ∧
    (∀ w, bodyBand r.body = some w → (s.tile r.tile).hasBand w = true)

/-- A CELL entry names a cell of its tile. -/
def CellEntriesPlaced (s : State) : Prop :=
  ∀ (k : Link) (t : TileIdx) (w : WallBand), Entry.cell t w ∈ (s.link k).queue → (s.tile t).hasBand w = true

/-- The cells, the queues and the hold lists agree (R54, R55, R56). -/
def CellsSound (s : State) : Prop :=
  OtherCellsStale s ∧ OneWorkPerCell s ∧ LiveRecordsPlaced s ∧ CellEntriesPlaced s

/-! ## Presents -/

/-- The number of marked cells. -/
def markedCells (s : State) : Nat :=
  ((List.finRange 16).map fun t => (List.finRange 48).countP fun w => (s.cell t w).marked).sum

/-- R150, R153, R154, R158: marks stand only on participants' cells that are not CLEAN, while COLLECTING; the remaining count
is their number; and an idle present runs no deadline. -/
def PresentSound (s : State) : Prop :=
  (∀ (t : TileIdx) (w : WallBand), (s.cell t w).marked = true →
    s.present.state = .collecting ∧ TileSet.has s.present.participants t = true ∧ (s.cell t w).state ≠ .clean) ∧
  s.present.remaining = markedCells s ∧
  (s.present.state = .collecting → 1 ≤ s.present.remaining) ∧
  (s.present.state = .idle → s.present.deadline = none)

/-! ## Commands and their words -/

/-- Table 11-3: the code and the parameter count of a listed command. -/
def commandRow : Instr → Option (Byte × Nat)
  | .configureWall => some (0x01, 2)
  | .setWindow => some (0x02, 4)
  | .setPointer => some (0x03, 2)
  | .setMode => some (0x04, 2)
  | .fill => some (0x05, 5)
  | .mapSet => some (0x06, 3)
  | .mapRead => some (0x07, 1)
  | .setRollRegion => some (0x08, 5)
  | .roll => some (0x09, 1)
  | .tileSet => some (0x0A, 7)
  | .tileEnable => some (0x0B, 1)
  | .tileDisable => some (0x0C, 1)
  | .tileRead => some (0x0D, 1)
  | .queryTile => some (0x0E, 1)
  | .queryRead => some (0x0F, 0)
  | .cellRead => some (0x10, 2)
  | .setWalker => some (0x11, 1)
  | .linkEnable => some (0x12, 1)
  | .linkDisable => some (0x13, 1)
  | .linkReset => some (0x14, 1)
  | .linkClearFlags => some (0x15, 1)
  | .present => some (0x16, 0)
  | .cancelPresent => some (0x17, 0)
  | .presentRead => some (0x18, 0)
  | .setTimer => some (0x19, 2)
  | .softReset => some (0x1A, 0)
  | .hardReset | .hardResetEnd | .startUpClearRow | .pixelWrite _ | .pixelRead | .windowWriteLanding | .latchLoad
  | .fillRow | .remapSweepPass | .walkerExamination | .dispatchSelection _ | .captureGrantEnd _ | .transmissionEnd _
  | .helloInterval _ | .attemptTimeout _ | .helloNotice .. | .ackNotice .. | .nakNotice .. | .tileStatusNotice ..
  | .reportNotice .. | .idleNotice _ | .invalidNotice _ | .replayTimeout _ | .replayRetransmission _
  | .reReadGrantEnd _ | .silenceTimeout _ | .queryTimeout | .presentDeadline | .parameterWrite _ | .resultRead
  | .commandStatusRead | .attentionRead | .writeMaskWrite _ | .interruptEnableWrite _ | .registerWrite ..
  | .unknownCommand _ => none

/-- The instant at which a command write passes the first four checks of R179 with the parameter words `ps`. -/
def Accepted (s : State) (ps : List Word) : Prop :=
  s.nReset = true ∧ s.cu.busy = false ∧ s.cu.overflow = false ∧ s.notReady = false ∧ s.cu.params = ps

/-- The Command Unit after a command taken now has ended (R179, R181). -/
def ended (s : State) (code : Byte) (r : ResultCode) (words : List Word) : CommandUnit where
  busy := false
  params := []
  results := words
  lastCode := code
  lastResult := r
  done := true
  collision := s.cu.collision
  overflow := false

/-- The Command Unit while a command taken now is carried out (R179). -/
def running (s : State) (code : Byte) : CommandUnit where
  busy := true
  params := []
  results := []
  lastCode := code
  lastResult := s.cu.lastResult
  done := s.cu.done
  collision := s.cu.collision
  overflow := false

/-- The Command Unit when the command that held it BUSY ends OK without result words (R181). -/
def endedOk (c : CommandUnit) : CommandUnit := { c with busy := false, results := [], lastResult := .ok, done := true }

/-- A word as a store column or row. -/
def coord (v : Word) : Coord := Fin.ofNat 512 v.toNat

/-- The rectangle of four words. -/
def rectOf (x0 y0 x1 y1 : Word) : Rect := ⟨coord x0, coord y0, coord x1, coord y1⟩

/-- Four words name a rectangle of the store (R5, R16). -/
def GoodRect (x0 y0 x1 y1 : Word) : Prop :=
  x0.toNat ≤ x1.toNat ∧ y0.toNat ≤ y1.toNat ∧ x1.toNat ≤ 511 ∧ y1.toNat ≤ 511

/-- The window side has nothing to do and nothing waits for it. -/
def WindowFree (s : State) : Prop := s.window.op = .idle ∧ s.window.held = []

/-- A notification of `count` columns of store band b from column `first` hands W to cell (t, w) (R27, R66). -/
def SpanReaches (s : State) (b : StoreBand) (first count : Nat) (t : TileIdx) (w : WallBand) : Prop :=
  w.val < s.map.bandCount ∧ s.map.resolve w = some b ∧ (s.tile t).state = .active ∧
  (s.tile t).firstBand ≤ w.val ∧ w.val < (s.tile t).firstBand + (s.tile t).bandCount ∧
  first < s.map.width ∧ first ≤ (s.tile t).firstColumn + (s.tile t).width - 1 ∧
  (s.tile t).firstColumn ≤ min (first + count - 1) (s.map.width - 1)

/-- Columns W and M of Table 4-2 for a cell record (R58, R59): a CLEAN cell becomes STALE and an INFLIGHT one INFLIGHT_STALE, a
STALE, QUEUED or INFLIGHT_STALE one keeps its state, and the mark stays. -/
def Changed (c c' : CellRecord) : Prop :=
  c'.marked = c.marked ∧
  (c.state = .clean → c'.state = .stale) ∧ (c.state = .inflight → c'.state = .inflightStale) ∧
  (c.state = .stale ∨ c.state = .queued ∨ c.state = .inflightStale → c'.state = c.state)

/-- Column C of Table 4-2 for a cell record (R61): a QUEUED cell becomes INFLIGHT, and its mark stays. C reaches no other
state (R64; the record then stays, log entry 15). -/
def Captured (c c' : CellRecord) : Prop :=
  c'.marked = c.marked ∧ (c.state = .queued → c'.state = .inflight) ∧ (c.state ≠ .queued → c' = c)

/-- Column A of Table 4-2 for a cell record (R62): an INFLIGHT cell becomes CLEAN and unmarked, an INFLIGHT_STALE one STALE with
its mark as it was. A reaches no other state (R64; the record then stays, log entry 15). -/
def Acknowledged (c c' : CellRecord) : Prop :=
  (c.state = .inflight → c' = ⟨.clean, false⟩) ∧ (c.state = .inflightStale → c' = ⟨.stale, c.marked⟩) ∧
  (c.state = .clean ∨ c.state = .stale ∨ c.state = .queued → c' = c)

/-- The cells of `t` are those of `s` with W or M for the cells that satisfy P and no change for the others. -/
def ChangedWhere (s t : State) (P : TileIdx → WallBand → Prop) : Prop :=
  ∀ u w, (P u w → Changed (s.cell u w) (t.cell u w)) ∧ (¬ P u w → t.cell u w = s.cell u w)

/-- The map a map command leaves, and what the Command Unit does with it (R28, R33). -/
def afterMapCommand (s : State) (code : Byte) (m : BandMap) : State :=
  if s.map.changedSet m = [] then { s.hostAccess with map := m, cu := ended s code .ok [] }
  else { s.hostAccess with
    map := { m with sweep := some ⟨s.map.changedSet m, s.map.changedSet m⟩ }, cu := running s code }

/-! ## Notices -/

/-- The bytes of a notice with its check behind them (R188). -/
def withCheck (bytes : List Byte) : List Byte := bytes ++ wordBytes (crc16 bytes)

/-- A unit has the length of its kind (Table 11-10). -/
def LengthOfKind (bytes : List Byte) : Prop :=
  (bytes.head?, bytes.length) ∈
    [(some (0x81 : Byte), 8), (some 0x82, 5), (some 0x83, 5), (some 0x84, 6), (some 0x85, 11), (some 0x86, 3)]

/-- A partner HELLO is well formed (R104). -/
def HelloFit (n : BitVec 3) (capacity : Vector Nibble 4) : Prop :=
  1 ≤ n.toNat ∧ n.toNat ≤ 4 ∧ ∀ p : Position, p.val < n.toNat → 1 ≤ (capacity[p]).toNat

/-- The bytes of a frame from its kind to its last field (Table 11-9), each byte a number: a field of two bytes has its high
byte first, and the payload its pixels in order. Bits 7..1 of byte 1 of a HELLO are 0 by log entry 34. -/
def frameBytes : Frame → List Nat
  | .hello seen => [1, seen.toNat]
  | .sequenced q p h body payload =>
    let word := 16384 * p.val + 8192 * h.toNat + q.toNat
    let start := fun kind => [kind, word / 256, word % 256]
    match body with
    | .band w _ column width => start 2 ++ [w.val, column / 256, column % 256, width / 256, width % 256] ++
        payload.flatMap fun v => [v.toNat / 256, v.toNat % 256]
    | .blank w => start 3 ++ [w.val]
    | .showTile n => start 4 ++ [n.toNat]
    | .query g => start 5 ++ [g.toNat]

/-! ## Links -/

/-- The transmitter after a HELLO is handed to it (R97, R115): sent now if it is free, and waiting otherwise. -/
def helloHanded (tx : Transmitter) (seen : Bool) : Transmitter :=
  match tx.sending with
  | none => ⟨some (.hello seen), false⟩
  | some f => ⟨some f, true⟩

/-- A link at the start of an attempt with the attempt count n (R115). -/
def attempting (l : LinkSlice) (time n : Nat) : LinkSlice :=
  { l with
    state := .training, partnerHeard := false, attemptCount := n, attemptTimer := some time, helloInterval := true
    tx := helloHanded l.tx false }

/-- What a capture engine is left doing when its work is given up (R93, R125): a grant it holds runs to its end, a waiting
request is withdrawn. -/
def stoppedEngine (holding : Bool) : CaptureEngine → CaptureEngine
  | .dispatch .. => if holding then .abandonedDispatch else .idle
  | .reRead _ => if holding then .givenUpReRead else .idle
  | .idle => .idle
  | .abandonedDispatch => .abandonedDispatch
  | .givenUpReRead => .givenUpReRead

/-- What a re-read given up leaves of a capture engine (R125); a dispatch goes on. -/
def stoppedReRead (holding : Bool) : CaptureEngine → CaptureEngine
  | .reRead _ => if holding then .givenUpReRead else .idle
  | .dispatch t w b => .dispatch t w b
  | .idle => .idle
  | .abandonedDispatch => .abandonedDispatch
  | .givenUpReRead => .givenUpReRead

/-- The tile that ends the present when tiles leave ACTIVE and entries are removed (R159, R160): in COLLECTING the first of the
tiles that participates; in SHOWING the first participant not yet in the shown set, the tiles of removed SHOW entries of the
present (Table 5-2) coming before the leaving ones (log entry 14); none where no such tile is found, or in IDLE. -/
def presentEnder (p : PresentRecord) (leaving : List TileIdx) (removed : List Entry) : Option TileIdx :=
  let shows := removed.filterMap fun
    | .showTile u n => if n = p.number then some u else none
    | .cell _ _ => none
    | .query _ _ => none
  match p.state with
  | .idle => none
  | .collecting => leaving.find? fun u => TileSet.has p.participants u
  | .showing => (shows ++ leaving).find? fun u => TileSet.has p.participants u && !TileSet.has p.shown u

/-- Whether the WAITING query ends when tiles leave ACTIVE and entries are removed (R52, R44): its own tile leaves, or its own
entry is removed. -/
def queryLost (q : QueryRecord) (leaving : List TileIdx) (removed : List Entry) : Bool :=
  q.waiting && (leaving.contains q.tile || removed.contains (.query q.tile q.tag))

/-- What the tiles `leaving` do that leave ACTIVE, and the entries `removed`, to cells, present, query and Attention Queue, `a`
being the queue before (R41, R44, R52, R63, R158 to R160): the cells of the tiles and of the CELL entries become STALE and
unmarked; a present ends FAILED or PARTIAL with its record, every mark cleared from COLLECTING, or goes on as it was; a query
ends LOST with its record, or goes on as it was; the two records join in either order. -/
def Departed (s t : State) (a : Attention) (leaving : List TileIdx) (removed : List Entry) : Prop :=
  let p := s.present
  let q := s.query
  let ender := presentEnder p leaving removed
  let lost := queryLost q leaving removed
  let outcome : PresentOutcome := if p.state = .collecting then .failed else .partially
  let presentEnds := ender.toList.map fun u =>
    AttentionEvent.presentEnd outcome p.number (some u) (if p.state = .collecting then none else some p.shown)
  let queryEnds := if lost then [AttentionEvent.queryEnd (s.tile q.tile).link q.tile .lost q.tag] else []
  t.present = (if ender.isSome then { p with state := .idle, deadline := none, remaining := 0, outcome := outcome } else p) ∧
  t.query = (if lost then { q with waiting := false, outcome := .lost, timeout := none } else q) ∧
  (∀ u w, (u ∈ leaving ∧ (s.tile u).hasBand w = true) ∨ Entry.cell u w ∈ removed → t.cell u w = ⟨.stale, false⟩) ∧
  (∀ u w, ¬((u ∈ leaving ∧ (s.tile u).hasBand w = true) ∨ Entry.cell u w ∈ removed) →
    t.cell u w = if ender.isSome ∧ p.state = .collecting then { s.cell u w with marked := false } else s.cell u w) ∧
  (t.attention = (presentEnds ++ queryEnds).foldl Attention.append a ∨
    t.attention = (queryEnds ++ presentEnds).foldl Attention.append a)

/-- The Store Arbiter after link k's capture engine has given up its work: what waited is withdrawn, a grant stays (R93, R125). -/
def withdrawnWhenIdle (s t : State) (k : Link) : Arbiter :=
  if (t.link k).engine = .idle ∧ (s.link k).engine ≠ .idle then
    { s.arbiter with captureWaiting := s.arbiter.captureWaiting.set k false } else s.arbiter

/-- Link k of s has been lost for a reason, t being the state after it (R131): the link; the LINK_LOST record, then what its
tiles' departure and its removed entries do; and what stays as it was. `off` is the loss by LINK DISABLE, after which partner
heard is no (log entry 19). -/
def LinkLost (s t : State) (k : Link) (reason : LossReason) (off : Bool) : Prop :=
  let leaving := (List.finRange 16).filter fun u => (s.tile u).state == .active && (s.tile u).link == k
  t.link k = { s.link k with
    state := if off then .off else .training
    queue := [], backlog := [], hold := [], replayPoint := none, replayCount := 0, replayTimer := none, silenceTimer := none
    partnerHeard := false
    attemptTimer := if off then (s.link k).attemptTimer else some s.timers.attemptTime
    helloInterval := if off then (s.link k).helloInterval else true
    tx := if off then ⟨none, false⟩ else ⟨some (.hello false), false⟩
    engine := stoppedEngine (s.holds (.capture k)) (s.link k).engine
    positions := (s.link k).positions.map fun p => { p with present := false, credit := 0, outstanding := 0 } } ∧
  (∀ j, j ≠ k → t.link j = s.link j) ∧
  (∀ u, t.tile u = if u ∈ leaving then { s.tile u with state := .waiting } else s.tile u) ∧
  Departed s t (s.attention.append (.linkLost k reason)) leaving ((s.link k).queue ++ (s.link k).backlog) ∧
  t.arbiter = withdrawnWhenIdle s t k ∧
  t.store = s.store ∧ t.map = s.map ∧ t.window = s.window ∧ t.fill = s.fill ∧ t.timers = s.timers ∧ t.walker = s.walker ∧
  t.notReady = s.notReady ∧ t.nReset = s.nReset

/-- A link after the completion of a dispatch (R86, R89, R90, R91, R124), the entry's queue place refilled from the backlog. -/
def completedLink (s : State) (k : Link) (e : Entry) (body : HoldBody) (payload : List Word) : LinkSlice :=
  let l := s.link k
  let p := (s.tile e.tile).position
  let freed := l.queue.erase e
  { l with
    queue := freed ++ l.backlog.take (32 - freed.length)
    backlog := l.backlog.drop (32 - freed.length)
    positions := if body.takesSlot then
        l.positions.set p { l.position p with
          credit := (l.position p).credit - 1, outstanding := (l.position p).outstanding + 1 }
      else l.positions
    nextSeq := l.nextSeq + 1
    hold := l.hold ++ [⟨l.nextSeq, e.tile, p, false, body⟩]
    replayTimer := if l.hold = [] then some s.timers.replayTimeout else l.replayTimer
    engine := .idle
    tx := ⟨some (.sequenced l.nextSeq p (s.present.state == .collecting) body payload), l.tx.helloWaiting⟩ }

/-- The conditions of R84 on a link, but for the eligible entry. -/
def MaySelect (l : LinkSlice) : Prop :=
  l.engine = .idle ∧ l.state = .up ∧ l.replayPoint = none ∧ l.hold.length < 16 ∧ l.tx.sending = none

/-- The retransmission of the record r of a link as frame f: the frame is handed over and the replay point moves on (R126). -/
def Retransmitted (l l' : LinkSlice) (r : HoldRecord) (f : Frame) : Prop :=
  ∃ older newer, l.hold = older ++ r :: newer ∧ (∀ h ∈ older, h.seq ≠ r.seq) ∧
    l' = { l with
      tx := ⟨some f, l.tx.helloWaiting⟩, replayPoint := newer.head?.map (·.seq), engine := .idle }

/-- Releasing these records reports nothing to the Present Unit: no live SHOW of the present being shown, and no live record of
a marked INFLIGHT cell (R62, R154, R157). -/
def Quiet (s : State) (rs : List HoldRecord) : Prop :=
  ∀ r ∈ rs, r.orphan = false →
    (∀ n, r.body = .showTile n →
      ¬(s.present.state = .showing ∧ n = s.present.number ∧ TileSet.has s.present.participants r.tile = true)) ∧
    (∀ w, bodyBand r.body = some w → s.cell r.tile w ≠ ⟨.inflight, true⟩)

/-- The replay point after n released records (R128): a replay whose point was among them goes on from the oldest record left,
or ends where none is left. -/
def replayPointAfter (l : LinkSlice) (n : Nat) : Option SeqNo :=
  if ∃ r ∈ l.hold.take n, l.replayPoint = some r.seq then (l.hold.drop n).head?.map (·.seq) else l.replayPoint

/-- The capture engine after n released records (R128, R125): a re-read is given up when the replay point was among them. -/
def engineAfter (s : State) (k : Link) (n : Nat) : CaptureEngine :=
  if ∃ r ∈ (s.link k).hold.take n, (s.link k).replayPoint = some r.seq then
    stoppedReRead (s.holds (.capture k)) (s.link k).engine
  else (s.link k).engine

/-- What n released records leave (R120, R122): the hold list of link k, the cells of the live ones, and what stays. -/
def Released (s t : State) (k : Link) (n : Nat) : Prop :=
  let l := s.link k
  let l' := t.link k
  l'.hold = l.hold.drop n ∧ l'.nextSeq = l.nextSeq ∧ l'.positions = l.positions ∧ l'.state = .up ∧ l'.stray = l.stray ∧
  l'.badNotice = l.badNotice ∧ l'.creditExcess = l.creditExcess ∧ l'.tx = l.tx ∧ l'.attemptCount = l.attemptCount ∧
  l'.partnerHeard = l.partnerHeard ∧ l'.attemptTimer = l.attemptTimer ∧ l'.helloInterval = l.helloInterval ∧
  l'.receiving = l.receiving ∧
  (∀ u w, (l.hold.take n).countP (liveRecordOf u w) = 0 → t.cell u w = s.cell u w) ∧
  (∀ u w, (l.hold.take n).countP (liveRecordOf u w) = 1 → Acknowledged (s.cell u w) (t.cell u w)) ∧
  (Quiet s (l.hold.take n) → t.present = s.present ∧ t.attention = s.attention ∧ (∀ j, j ≠ k → t.link j = s.link j) ∧
    l'.queue = l.queue ∧ l'.backlog = l.backlog) ∧
  t.tiles = s.tiles ∧ t.store = s.store ∧ t.map = s.map ∧ t.window = s.window ∧ t.cu = s.cu ∧ t.timers = s.timers ∧
  t.query = s.query ∧ t.walker = s.walker ∧ t.fill = s.fill ∧ t.bus = s.bus ∧ t.nReset = s.nReset ∧
  t.notReady = s.notReady ∧ t.arbiter = withdrawnWhenIdle s t k

/-- The SHOW entries of the present of s for link k, in ascending order of tile index (R156). -/
def showEntries (s : State) (k : Link) (number : Byte) (participates : TileIdx → Bool) : List Entry :=
  ((List.finRange 16).filter fun u => participates u && (s.tile u).link == k).map fun u => .showTile u number

end Sys2Proof.Safety
end

