-- ==== Sys2Proof/Certificates/Slice0/Obligations.lean ====
section
/-! DEFINITION. The statements for the provers, in the order of the chapters' families of commands. A host access first ends a
PIXEL DATA cycle that is still stretched (R21), which `s.hostAccess` stands for; RegisterWritesTakeEffectAtOnce says what it is. -/

section Statements

open Sys2Proof Sys2Proof.Machine Sys2Proof.Safety

/-! ## The machine -/

/-- A step takes the command at the front of the queue and no command touches the queue; on an empty queue the block idles (log
entry 1). -/
def Obligations.StepRunsTheFrontCommand : Prop :=
  (∀ (c : Instr) (rest : List Instr) (s : State), s.pending = c :: rest → step s = exec c { s with pending := rest }) ∧
  (∀ (c : Instr) (s t : State), exec c s = .next t → t.pending = s.pending) ∧
  (∀ s : State, s.pending = [] → step s = .next s)

/-- Every well-formed command has a next state in every state; while nRESET is low only the reset commands change the state
(log entry 3, deduced from R2 and R176); an ill-formed term is refused (log entry 20). -/
def Obligations.EveryWellFormedCommandHasANextState : Prop :=
  ∀ (c : Instr) (s : State),
    (c.WellFormed = true →
      ∃ t, exec c s = .next t ∧ (s.nReset = false → c ≠ .hardReset → c ≠ .hardResetEnd → t = s)) ∧
    (c.WellFormed = false → exec c s = .refused (.illFormed "UNKNOWN_COMMAND"))

/-! ## Reset and start-up -/

/-- HARD_RESET takes every field to its value in reset but for the queue, the bus data and the free-value counter (the model's
fields, log entries 5 and 13); HARD_RESET_END begins the start-up clear at State.reset (log entry 23); nRESET already high does not rise
(log entry 2). The manual does not give the content of the store, empty here by log entry 7, nor the Fill Engine's rectangle, value,
mask copy and progress, 0 here by log entry 33. -/
def Obligations.ResetPinRestoresAndStarts : Prop :=
  (∀ s : State, ∃ t, exec .hardReset s = .next t ∧ t.pending = s.pending ∧ t.bus.cycle = .none ∧
    { t with
      bus := State.inReset.bus, freeCount := State.inReset.freeCount, pending := State.inReset.pending } = State.inReset) ∧
  (∀ s : State, s.nReset = false → s.arbiter.holder = none → s.arbiter.windowWaiting = false →
    (∀ k : Link, s.arbiter.captureWaiting[k] = false) →
    exec .hardResetEnd s = .next { s with
      nReset := true, notReady := true
      fill := { s.fill with clearRow := 0 }
      window := { s.window with op := .clearRow }
      arbiter := { s.arbiter with holder := some .window } }) ∧
  (∀ s : State, s.nReset = true → exec .hardResetEnd s = .next s) ∧
  exec .hardResetEnd State.inReset = .next State.reset

/-- START_UP_CLEAR_ROW writes 0 into every pixel of the clear's row, whatever the mask, hands on no notification, and goes on to
the next row or, after row 511, to the latch load; with no capture waiting the next grant is given at once (R2). -/
def Obligations.StartUpClearRowZeroesOneRow : Prop :=
  ∀ s : State, StoreForm s → s.nReset = true → s.window.op = .clearRow → s.arbiter.holder = some .window → s.fill.clearRow ≤ 511 →
    ∃ t, exec .startUpClearRow s = .next t ∧
      (∀ x y : Coord, Memory.pixel t.store x y = if y.val = s.fill.clearRow then 0 else Memory.pixel s.store x y) ∧
      { t with store := s.store } = { s with
        fill := { s.fill with clearRow := s.fill.clearRow + 1 }
        window := { s.window with op := if s.fill.clearRow = 511 then .latchLoad .clearEnd else .clearRow }
        arbiter := s.arbiter.release.request .window } ∧
      (s.arbiter.windowWaiting = false → (∀ k : Link, s.arbiter.captureWaiting[k] = false) →
        t.arbiter.holder = some .window)

/-- SOFT_RESET outside BUSY gives every block its SOFT RESET values, NOT_READY or not (R184, R137, R148, R47, R54, R68, R48, R163, R168,
R93, R125, R110). That an OFF link keeps its attempt count and next sequence number is log entry 18. -/
def Obligations.SoftResetResetsEveryBlock : Prop :=
  ∀ s : State, s.nReset = true → s.cu.busy = false →
    ∃ t, exec .softReset s = .next t ∧
      t.cu = { ended s 0x1A .ok [] with collision := false } ∧
      { t with cu := s.cu, links := s.links, arbiter := s.arbiter, tiles := s.tiles, cells := s.cells } =
        { s.hostAccess with
          window := { s.window with wrapped := false, windowBusy := false }
          map := { s.map with sweep := none }
          walker := ⟨s.walker.mode, 0, 0⟩
          present := if s.present.state = .idle then s.present
            else { s.present with state := .idle, deadline := none, remaining := 0, outcome := .reset }
          query := if s.query.waiting then { s.query with waiting := false, outcome := .lost, timeout := none } else s.query
          attention := { s.attention with records := [], gapFlag := false, readOut := [] } } ∧
      (∀ u, t.tile u = if (s.tile u).state = .disabled then s.tile u else { s.tile u with state := .waiting }) ∧
      (∀ u w, t.cell u w = ⟨.stale, false⟩) ∧
      t.arbiter.holder = s.arbiter.holder ∧ t.arbiter.windowWaiting = s.arbiter.windowWaiting ∧
      t.arbiter.lastServed = s.arbiter.lastServed ∧
      ∀ k : Link,
        let l := s.link k
        let l' := t.link k
        l'.queue = [] ∧ l'.backlog = [] ∧ l'.hold = [] ∧ l'.replayPoint = none ∧ l'.replayCount = 0 ∧
        l'.replayTimer = none ∧ l'.silenceTimer = none ∧ l'.stray = false ∧ l'.badNotice = false ∧ l'.creditExcess = false ∧
        l'.receiving = none ∧ l'.engine = stoppedEngine (s.holds (.capture k)) l.engine ∧
        (l'.engine ≠ l.engine → s.holds (.capture k) = false → t.arbiter.captureWaiting[k] = false) ∧
        (∀ p, l'.position p = { l.position p with present := false, credit := 0, outstanding := 0 }) ∧
        (l.state = .off → l'.state = .off ∧ l'.attemptCount = l.attemptCount ∧ l'.nextSeq = l.nextSeq ∧ l'.tx = l.tx ∧
          l'.attemptTimer = l.attemptTimer ∧ l'.helloInterval = l.helloInterval) ∧
        (l.state ≠ .off → l'.state = .training ∧ l'.partnerHeard = false ∧ l'.attemptCount = 0 ∧ l'.nextSeq = 0 ∧
          l'.attemptTimer = some s.timers.attemptTime ∧ l'.helloInterval = true ∧ l'.tx = ⟨some (.hello false), false⟩)

/-! ## The Command Unit -/

/-- Every command written while the unit is BUSY collides, whatever its code: the collision flag alone changes (R180). -/
def Obligations.CommandsCollideWhileBusy : Prop :=
  ∀ (c : Instr) (s : State), s.nReset = true → s.cu.busy = true →
    ((commandRow c).isSome = true ∨ ∃ code, c = .unknownCommand code ∧ c.WellFormed = true) →
    exec c s = .next { s.hostAccess with cu := { s.cu with collision := true } }

/-- The first four checks of R179: an unlisted code is refused with UNKNOWN and recorded as FFh (that a word above 00FFh is unlisted
is log entry 20); a listed one other than SOFT RESET with LONG for the overflow flag, with SHORT or LONG for its parameter count, then
with NOT_READY. -/
def Obligations.FirstFourChecksRefuse : Prop :=
  (∀ (code : Word) (s : State), code.toNat = 0 ∨ 26 < code.toNat → s.nReset = true → s.cu.busy = false →
    exec (.unknownCommand code) s = .next { s.hostAccess with cu := ended s 0xFF .unknown [] }) ∧
  (∀ (c : Instr) (code : Byte) (n : Nat) (s : State), commandRow c = some (code, n) → c ≠ .softReset →
    s.nReset = true → s.cu.busy = false →
    (s.cu.overflow = true ∨ n < s.cu.params.length →
      exec c s = .next { s.hostAccess with cu := ended s code .long [] }) ∧
    (s.cu.overflow = false → s.cu.params.length < n →
      exec c s = .next { s.hostAccess with cu := ended s code .short [] }) ∧
    (s.cu.overflow = false → s.cu.params.length = n → s.notReady = true →
      exec c s = .next { s.hostAccess with cu := ended s code .notReady [] }))

/-! ## The Pixel Window, the Fill Engine and the Store Arbiter -/

/-- PIXEL_WRITE asks for the store at a free window side, waits behind one that is not, and is discarded with the window-busy flag
while a FILL runs or the device is NOT_READY (R10, R12, R13, R21). -/
def Obligations.PixelWriteAsksForTheStore : Prop :=
  ∀ (v : Word) (s : State), s.nReset = true →
    (s.fill.running = false → s.notReady = false → WindowFree s →
      exec (.pixelWrite v) s = .next { s.hostAccess with
        bus := { s.hostAccess.bus with cycle := .stretchedWrite }
        window := { s.window with op := .pixelWrite v }
        arbiter := s.arbiter.request .window }) ∧
    (s.fill.running = false → s.notReady = false → s.window.op ≠ .idle →
      exec (.pixelWrite v) s = .next { s.hostAccess with
        bus := { s.hostAccess.bus with cycle := .stretchedWrite }
        window := { s.window with held := s.window.held ++ [.pixelWrite v] } }) ∧
    (s.fill.running = true ∨ s.notReady = true →
      exec (.pixelWrite v) s = .next { s.hostAccess with window := { s.window with windowBusy := true } })

/-- PIXEL_READ at a free window side gives the host the latch, and outside modify mode advances the pointer and asks for a latch
load; behind other work it waits; while a FILL runs or the device is NOT_READY it gives 0 (R11, R12, R13, R21). -/
def Obligations.PixelReadGivesTheLatch : Prop :=
  ∀ s : State, s.nReset = true →
    (s.fill.running = false → s.notReady = false → WindowFree s → s.window.modify = true →
      exec .pixelRead s = .next { s.hostAccess with bus := ⟨.none, s.window.latch⟩ }) ∧
    (s.fill.running = false → s.notReady = false → WindowFree s → s.window.modify = false →
      exec .pixelRead s = .next { s.hostAccess with
        bus := ⟨.none, s.window.latch⟩
        window := { s.window.advance with op := .latchLoad .access }
        arbiter := s.arbiter.request .window }) ∧
    (s.fill.running = false → s.notReady = false → s.window.op ≠ .idle →
      exec .pixelRead s = .next { s.hostAccess with
        bus := { s.hostAccess.bus with cycle := .stretchedRead }
        window := { s.window with held := s.window.held ++ [.pixelRead] } }) ∧
    (s.fill.running = true ∨ s.notReady = true →
      exec .pixelRead s = .next { s.hostAccess with
        bus := { s.hostAccess.bus with data := 0 }
        window := { s.window with windowBusy := true } })

/-- WINDOW_WRITE_LANDING: the pixel at the pointer takes the bits the mask selects, every other pixel stays; W reaches the cells of
ACTIVE tiles that show it; the cycle ends; the pointer advances and the latch load asks for the store (R10, R15, R27, R66, R9, R12). -/
def Obligations.WindowWriteLandsUnderTheMask : Prop :=
  ∀ (v : Word) (s : State), StoreForm s → s.nReset = true → s.window.op = .pixelWrite v → s.arbiter.holder = some .window →
    ∃ t, exec .windowWriteLanding s = .next t ∧
      (∀ x y : Coord, Memory.pixel t.store x y =
        if x = s.window.x ∧ y = s.window.y then maskedWord s.window.mask (Memory.pixel s.store x y) v
        else Memory.pixel s.store x y) ∧
      ChangedWhere s t (SpanReaches s (bandOfRow s.window.y) s.window.x.val 1) ∧
      { t with store := s.store, cells := s.cells } = { s with
        bus := if s.bus.cycle = .stretchedWrite ∧ s.window.held.any HeldOp.isAccess = false
          then { s.bus with cycle := .none } else s.bus
        window := { s.window.advance with op := .latchLoad .access }
        arbiter := s.arbiter.release.request .window }

/-- LATCH_LOAD with nothing waiting: the latch takes the pixel at the pointer, the grant ends, and the operation the load belongs to
ends: a window command, a FILL, or the start-up clear (R12, R5, R6, R18, R2). -/
def Obligations.LatchLoadTakesThePixelAtThePointer : Prop :=
  ∀ (cause : LoadCause) (s : State), s.nReset = true → s.window.op = .latchLoad cause → s.arbiter.holder = some .window →
    s.window.held = [] →
    exec .latchLoad s = .next { s with
      window := { s.window with latch := Memory.pixel s.store s.window.x s.window.y, op := .idle }
      arbiter := s.arbiter.release
      cu := match cause with
        | .command => endedOk s.cu
        | .fillEnd => endedOk s.cu
        | .access => s.cu
        | .clearEnd => s.cu
      fill := if cause = .fillEnd then { s.fill with running := false } else s.fill
      notReady := if cause = .clearEnd then false else s.notReady }

/-- What waits for the latch load of an access or a window command proceeds at its end, in the order in which it was taken, up to the
first operation that needs a grant, what is held behind that one waiting on; a read in modify mode and a SET MODE need none, and the
rest proceeds as if they had not been held (R12, R5, R6, R7, R10, R11, R17, R21). That the flags clear when a held command takes effect
is log entry 11, the order of several held operations log entry 12. -/
def Obligations.HeldWorkFollowsTheLatchLoad : Prop :=
  ∀ (cause : LoadCause) (h : HeldOp) (rest : List HeldOp) (s : State), s.nReset = true → s.window.op = .latchLoad cause →
    cause = .access ∨ cause = .command → s.arbiter.holder = some .window → s.window.held = h :: rest →
    let cu := if cause = .command then endedOk s.cu else s.cu
    let w := { s.window with latch := Memory.pixel s.store s.window.x s.window.y, held := rest }
    let a := s.arbiter.release
    let delivered : Bus :=
      if s.bus.cycle = .stretchedRead ∧ rest.any HeldOp.isAccess = false then ⟨.none, w.latch⟩ else s.bus
    (∀ v, h = .pixelWrite v → exec .latchLoad s = .next { s with
      cu := cu, window := { w with op := .pixelWrite v }, arbiter := a.request .window }) ∧
    (h = .pixelRead → s.window.modify = false → exec .latchLoad s = .next { s with
      bus := delivered, cu := cu, window := { w.advance with op := .latchLoad .access }, arbiter := a.request .window }) ∧
    (h = .pixelRead → s.window.modify = true →
      exec .latchLoad s = exec .latchLoad { s with bus := delivered, window := { s.window with held := rest } } ∧
      (rest = [] → exec .latchLoad s = .next { s with
        bus := delivered, cu := cu, window := { w with op := .idle }, arbiter := a })) ∧
    (∀ r, h = .setWindow r → exec .latchLoad s = .next { s with
      cu := cu
      window := { w with
        rect := r, x := r.x0, y := r.y0, wrapped := false, windowBusy := false, op := .latchLoad .command }
      arbiter := a.request .window }) ∧
    (∀ x y, h = .setPointer x y → exec .latchLoad s = .next { s with
      cu := cu
      window := { w with x := x, y := y, wrapped := false, op := .latchLoad .command }
      arbiter := a.request .window }) ∧
    (∀ o m, h = .setMode o m →
      exec .latchLoad s = exec .latchLoad { s with
        cu := endedOk s.cu, window := { s.window with order := o, modify := m, held := rest } } ∧
      (rest = [] → exec .latchLoad s = .next { s with
        window := { w with order := o, modify := m, op := .idle }, arbiter := a, cu := endedOk s.cu })) ∧
    (h = .fillStart → exec .latchLoad s = .next { s with
      cu := cu, window := { w with op := .fillRow }, arbiter := a.request .window })

/-- Advances from the first position of the window visit each of its positions once, in rows left to right and top to bottom or in
columns top to bottom and left to right, and then return to the first one and set the wrapped flag (R9). -/
def Obligations.AdvanceVisitsTheWholeWindow : Prop :=
  ∀ w : PixelWindow, RectOrdered w.rect → w.x = w.rect.x0 → w.y = w.rect.y0 →
    let width := w.rect.x1.val - w.rect.x0.val + 1
    let height := w.rect.y1.val - w.rect.y0.val + 1
    (∀ n, n < width * height →
      let v := PixelWindow.advance^[n] w
      v = { w with x := v.x, y := v.y } ∧
      (w.order = .rows → v.x.val = w.rect.x0.val + n % width ∧ v.y.val = w.rect.y0.val + n / width) ∧
      (w.order = .columns → v.x.val = w.rect.x0.val + n / height ∧ v.y.val = w.rect.y0.val + n % height)) ∧
    PixelWindow.advance^[width * height] w = { w with wrapped := true }

/-- FILL_ROW writes the FILL's value through its mask copy into one row of its rectangle and nothing else; after the last row of a
store band W reaches the cells that show it; then the next row or the latch load asks for the store (R17, R18, R15). -/
def Obligations.FillRowWritesOneRow : Prop :=
  ∀ s : State, StoreForm s → s.nReset = true → s.window.op = .fillRow → s.arbiter.holder = some .window →
    s.fill.row ≤ s.fill.rect.y1.val →
    ∃ t, exec .fillRow s = .next t ∧
      (∀ x y : Coord, Memory.pixel t.store x y =
        if y.val = s.fill.row ∧ s.fill.rect.x0 ≤ x ∧ x ≤ s.fill.rect.x1
        then maskedWord s.fill.mask (Memory.pixel s.store x y) s.fill.value else Memory.pixel s.store x y) ∧
      (s.fill.row = s.fill.rect.y1.val ∨ s.fill.row % 8 = 7 →
        ChangedWhere s t (SpanReaches s (Fin.ofNat 64 (s.fill.row / 8)) s.fill.rect.x0.val
          (s.fill.rect.x1.val - s.fill.rect.x0.val + 1))) ∧
      (¬(s.fill.row = s.fill.rect.y1.val ∨ s.fill.row % 8 = 7) → t.cells = s.cells) ∧
      { t with store := s.store, cells := s.cells } = { s with
        fill := { s.fill with row := s.fill.row + 1 }
        window := { s.window with op := if s.fill.row = s.fill.rect.y1.val then .latchLoad .fillEnd else .fillRow }
        arbiter := s.arbiter.release.request .window }

/-- FILL records its rectangle, value and mask copy and runs; its first row asks for the store at once or waits behind the window
side's work; a bad rectangle is refused with RANGE (R16, R13). -/
def Obligations.FillRecordsItsWorkAndRuns : Prop :=
  ∀ (x0 y0 x1 y1 v : Word) (s : State), Accepted s [x0, y0, x1, y1, v] →
    let f := { s.fill with
      running := true, rect := rectOf x0 y0 x1 y1, value := v, mask := s.window.mask, row := y0.toNat }
    (¬ GoodRect x0 y0 x1 y1 → exec .fill s = .next { s.hostAccess with cu := ended s 0x05 .range [] }) ∧
    (GoodRect x0 y0 x1 y1 → WindowFree s → exec .fill s = .next { s.hostAccess with
      cu := running s 0x05, fill := f, window := { s.window with op := .fillRow }
      arbiter := s.arbiter.request .window }) ∧
    (GoodRect x0 y0 x1 y1 → s.window.op ≠ .idle → exec .fill s = .next { s.hostAccess with
      cu := running s 0x05, fill := f, window := { s.window with held := s.window.held ++ [.fillStart] } })

/-- SET_WINDOW, SET_POINTER and SET_MODE at a free window side take effect at once, the first two then asking for their latch load;
behind other work they wait; bad parameters are refused with RANGE (R5, R6, R7, R12). -/
def Obligations.WindowCommandsTakeEffectInTurn : Prop :=
  (∀ (x0 y0 x1 y1 : Word) (s : State), Accepted s [x0, y0, x1, y1] →
    (¬ GoodRect x0 y0 x1 y1 → exec .setWindow s = .next { s.hostAccess with cu := ended s 0x02 .range [] }) ∧
    (GoodRect x0 y0 x1 y1 → WindowFree s → exec .setWindow s = .next { s.hostAccess with
      cu := running s 0x02
      window := { s.window with
        rect := rectOf x0 y0 x1 y1, x := coord x0, y := coord y0, wrapped := false, windowBusy := false
        op := .latchLoad .command }
      arbiter := s.arbiter.request .window }) ∧
    (GoodRect x0 y0 x1 y1 → s.window.op ≠ .idle → exec .setWindow s = .next { s.hostAccess with
      cu := running s 0x02
      window := { s.window with held := s.window.held ++ [.setWindow (rectOf x0 y0 x1 y1)] } })) ∧
  (∀ (x y : Word) (s : State), Accepted s [x, y] →
    let good := s.window.rect.x0.val ≤ x.toNat ∧ x.toNat ≤ s.window.rect.x1.val ∧
      s.window.rect.y0.val ≤ y.toNat ∧ y.toNat ≤ s.window.rect.y1.val
    (¬ good → exec .setPointer s = .next { s.hostAccess with cu := ended s 0x03 .range [] }) ∧
    (good → WindowFree s → exec .setPointer s = .next { s.hostAccess with
      cu := running s 0x03
      window := { s.window with x := coord x, y := coord y, wrapped := false, op := .latchLoad .command }
      arbiter := s.arbiter.request .window }) ∧
    (good → s.window.op ≠ .idle → exec .setPointer s = .next { s.hostAccess with
      cu := running s 0x03
      window := { s.window with held := s.window.held ++ [.setPointer (coord x) (coord y)] } })) ∧
  (∀ (o m : Word) (s : State), Accepted s [o, m] →
    let order := if o = 0 then Order.rows else Order.columns
    (1 < o.toNat ∨ 1 < m.toNat → exec .setMode s = .next { s.hostAccess with cu := ended s 0x04 .range [] }) ∧
    (o.toNat ≤ 1 → m.toNat ≤ 1 → WindowFree s → exec .setMode s = .next { s.hostAccess with
      cu := ended s 0x04 .ok []
      window := { s.window with order := order, modify := m == 1 } }) ∧
    (o.toNat ≤ 1 → m.toNat ≤ 1 → s.window.op ≠ .idle → exec .setMode s = .next { s.hostAccess with
      cu := running s 0x04
      window := { s.window with held := s.window.held ++ [.setMode order (m == 1)] } }))

/-- Table 1-6: the next holder when a grant ends, the rotation starting after the last served link, and a request's grant at an
idle store (R19, R20). That such a grant makes its link the last served is log entry 9. -/
def Obligations.ArbiterChoosesByItsTable : Prop :=
  ∀ a : Arbiter,
    ((∃ j, a.holder = some (.capture j)) → a.windowWaiting = true →
      a.release = { a with holder := some .window, windowWaiting := false }) ∧
    (¬((∃ j, a.holder = some (.capture j)) ∧ a.windowWaiting = true) →
      ∀ (d : Fin 4) (k : Link), k = a.lastServed + 1 + d → a.captureWaiting[k] = true →
        (∀ (e : Fin 4) (j : Link), e < d → j = a.lastServed + 1 + e → a.captureWaiting[j] = false) →
        a.release = { a with
          holder := some (.capture k), captureWaiting := a.captureWaiting.set k false, lastServed := k }) ∧
    ((∀ k : Link, a.captureWaiting[k] = false) → a.windowWaiting = true →
      a.release = { a with holder := some .window, windowWaiting := false }) ∧
    ((∀ k : Link, a.captureWaiting[k] = false) → a.windowWaiting = false → a.release = { a with holder := none }) ∧
    ((∀ k : Link, a.captureWaiting[k] = false) → a.windowWaiting = false → a.holder = none →
      a.request .window = { a with holder := some .window } ∧
      ∀ k : Link, a.request (.capture k) = { a with holder := some (.capture k), lastServed := k }) ∧
    (a.holder ≠ none →
      a.request .window = { a with windowWaiting := true } ∧
      ∀ k : Link, a.request (.capture k) = { a with captureWaiting := a.captureWaiting.set k true })

/-! ## The host's other accesses -/

/-- PARAMETER_WRITE, RESULT_READ and COMMAND_STATUS_READ on the FIFOs and flags of the Command Unit (R178, R182, R181). -/
def Obligations.CommandUnitFifosAndFlags : Prop :=
  ∀ s : State, s.nReset = true →
    (∀ v, s.cu.params.length < 8 → exec (.parameterWrite v) s = .next { s.hostAccess with
      cu := { s.cu with params := s.cu.params ++ [v] } }) ∧
    (∀ v, 8 ≤ s.cu.params.length → exec (.parameterWrite v) s = .next { s.hostAccess with
      cu := { s.cu with overflow := true } }) ∧
    (∀ w rest, s.cu.results = w :: rest → exec .resultRead s = .next { s.hostAccess with
      bus := { s.hostAccess.bus with data := w }, cu := { s.cu with results := rest } }) ∧
    (s.cu.results = [] → exec .resultRead s = .next { s.hostAccess with
      bus := { s.hostAccess.bus with data := 0 } }) ∧
    exec .commandStatusRead s = .next { s.hostAccess with
      bus := { s.hostAccess.bus with data := s.cu.status }, cu := { s.cu with done := false, collision := false } }

/-- ATTENTION_READ gives a record as three words, popping it at word 1, and NONE at an empty queue; a record written joins the tail
with its gap mark, or is discarded at a full queue and sets the gap flag; and the three words hold the fields of Table 11-8, every bit
that a kind does not use being 0 (R171, R172, R170, R187). -/
def Obligations.AttentionQueueGivesThreeWords : Prop :=
  (∀ s : State, s.nReset = true →
    (∀ w rest, s.attention.readOut = w :: rest → exec .attentionRead s = .next { s.hostAccess with
      bus := { s.hostAccess.bus with data := w }, attention := { s.attention with readOut := rest } }) ∧
    (∀ r rest, s.attention.readOut = [] → s.attention.records = r :: rest →
      exec .attentionRead s = .next { s.hostAccess with
        bus := { s.hostAccess.bus with data := r.word1 }
        attention := { s.attention with records := rest, readOut := [r.event.word2, r.event.word3] } }) ∧
    (s.attention.readOut = [] → s.attention.records = [] → exec .attentionRead s = .next { s.hostAccess with
      bus := { s.hostAccess.bus with data := 0 }, attention := { s.attention with readOut := [0, 0] } })) ∧
  (∀ (a : Attention) (e : AttentionEvent),
    (a.records.length < 16 → a.append e = { a with records := a.records ++ [⟨e, a.gapFlag⟩], gapFlag := false }) ∧
    (16 ≤ a.records.length → a.append e = { a with gapFlag := true })) ∧
  (∀ (k : Link) (t : TileIdx) (p : Position) (gap : Bool),
    let words := fun (e : AttentionEvent) =>
      ((⟨e, gap⟩ : AttentionRecord).word1.toNat, e.word2.toNat, e.word3.toNat)
    let g := 16 * gap.toNat
    let onLink := 32 + 64 * k.val
    let onTile := 256 + 512 * t.val
    words (.linkUp k) = (1 + g + onLink, 0, 0) ∧
    words (.linkLost k .replayLimit) = (2 + g + onLink, 1, 0) ∧ words (.linkLost k .silence) = (2 + g + onLink, 2, 0) ∧
    words (.linkLost k .partnerHello) = (2 + g + onLink, 3, 0) ∧ words (.linkLost k .tileRestart) = (2 + g + onLink, 4, 0) ∧
    words (.linkLost k .host) = (2 + g + onLink, 5, 0) ∧
    (∀ n, n ≤ 15 → words (.linkFault k n) = (3 + g + onLink, n, 0)) ∧
    words (.tileJoined k t) = (4 + g + onLink + onTile, 0, 0) ∧
    words (.tileMissing k t p) = (5 + g + onLink + onTile, p.val, 0) ∧
    (∀ n : Byte,
      words (.presentEnd .done n none none) = (6 + g, 1 + 256 * n.toNat, 0) ∧
      (∀ shown : TileSet, words (.presentEnd .partially n (some t) (some shown)) =
          (6 + g + onTile, 2 + 256 * n.toNat, shown.toNat) ∧
        words (.presentEnd .partially n none (some shown)) = (6 + g, 2 + 256 * n.toNat, shown.toNat)) ∧
      words (.presentEnd .failed n (some t) none) = (6 + g + onTile, 3 + 256 * n.toNat, 0) ∧
      words (.presentEnd .timeout n none none) = (6 + g, 4 + 256 * n.toNat, 0) ∧
      words (.presentEnd .cancelled n none none) = (6 + g, 5 + 256 * n.toNat, 0) ∧
      words (.queryEnd k t .done n) = (7 + g + onLink + onTile, 1 + 256 * n.toNat, 0) ∧
      words (.queryEnd k t .timeout n) = (7 + g + onLink + onTile, 2 + 256 * n.toNat, 0) ∧
      words (.queryEnd k t .lost n) = (7 + g + onLink + onTile, 3 + 256 * n.toNat, 0)) ∧
    words (.creditExcess k (.tile t)) = (8 + g + onLink + onTile, 0, 0) ∧
    words (.creditExcess k (.position p)) = (8 + g + onLink, p.val + 4, 0))

/-- WRITE_MASK_WRITE and INTERRUPT_ENABLE_WRITE replace their registers and IRQ follows the enables; REGISTER_WRITE is ignored; a host
access, a read of a location without a row, and the host alone end a cycle still stretched, a read so ended leaving the host a free value
that the access still carried out does not replace (log entry 6); and which command each access of a location is, by Tables 11-1 and 11-3
(R8, R175, R176, R21, R179). That a word above 00FFh written to COMMAND is an unlisted code is log
entry 20. -/
def Obligations.RegisterWritesTakeEffectAtOnce : Prop :=
  (∀ (v : Word) (s : State), s.nReset = true →
    exec (.writeMaskWrite v) s = .next { s.hostAccess with window := { s.window with mask := v } } ∧
    (∀ location, exec (.registerWrite location v) s = .next s.hostAccess) ∧
    ∃ t, exec (.interruptEnableWrite v) s = .next t ∧
      t = { s.hostAccess with
        attention := { s.attention with attentionEnable := v.getLsbD 0, doneEnable := v.getLsbD 1 } } ∧
      (t.irq = true ↔ (s.attention.records ≠ [] ∧ v.getLsbD 0 = true) ∨ (s.cu.done = true ∧ v.getLsbD 1 = true))) ∧
  (∀ s : State,
    (s.bus.cycle = .none → s.hostAccess = s) ∧
    (s.bus.cycle = .stretchedWrite → s.hostAccess = { s with bus := ⟨.none, s.bus.data⟩ }) ∧
    (s.bus.cycle = .stretchedRead →
      s.hostAccess = { s with bus := ⟨.none, Config.freeWord s.freeCount⟩, freeCount := s.freeCount + 1 }) ∧
    s.hostAccess.ready = true) ∧
  (∀ s : State, s.nReset = true →
    s.hostEndsCycle = s.hostAccess ∧
    (∀ (a : Fin 32) (c : Instr), hostRead a = some c → s.hostReads a = exec c s) ∧
    (∀ a : Fin 32, hostRead a = none → s.hostReads a = .next { s.hostAccess with
      bus := ⟨.none, s.readLocation a⟩ }) ∧
    ∀ c : Instr, c = .latchLoad ∨ c = .windowWriteLanding →
      ∃ t, exec c s.hostEndsCycle = .next t ∧ t.bus = s.hostEndsCycle.bus ∧ t.ready = true ∧
        ∀ u, exec c s = .next u →
          { t with bus := u.bus, freeCount := u.freeCount } = u) ∧
  (∀ v : Word,
    hostWrite 0x05 v = .parameterWrite v ∧ hostWrite 0x08 v = .pixelWrite v ∧ hostWrite 0x09 v = .writeMaskWrite v ∧
    hostWrite 0x0F v = .interruptEnableWrite v ∧
    (∀ a : Fin 32, a ∉ [0x04, 0x05, 0x08, 0x09, 0x0F] → ∃ location, hostWrite a v = .registerWrite location v) ∧
    (∀ (c : Instr) (code : Byte) (n : Nat), commandRow c = some (code, n) → v.toNat = code.toNat → hostWrite 0x04 v = c) ∧
    (v.toNat = 0 ∨ 26 < v.toNat → hostWrite 0x04 v = .unknownCommand v)) ∧
  hostRead 0x06 = some .resultRead ∧ hostRead 0x07 = some .commandStatusRead ∧ hostRead 0x08 = some .pixelRead ∧
  hostRead 0x0D = some .attentionRead ∧ (∀ a : Fin 32, a ∉ [0x06, 0x07, 0x08, 0x0D] → hostRead a = none)

/-! ## The Band Map -/

/-- CONFIGURE_WALL sets the geometry and clears the map and the roll region; RANGE and STATE refuse it (R23). -/
def Obligations.ConfigureWallClearsTheMap : Prop :=
  ∀ (w b : Word) (s : State), Accepted s [w, b] →
    let good := w.toNat % 8 = 0 ∧ 8 ≤ w.toNat ∧ w.toNat ≤ 512 ∧ 1 ≤ b.toNat ∧ b.toNat ≤ 48
    (¬ good → exec .configureWall s = .next { s.hostAccess with cu := ended s 0x01 .range [] }) ∧
    (good → (∃ t, (s.tile t).state ≠ .disabled) →
      exec .configureWall s = .next { s.hostAccess with cu := ended s 0x01 .state [] }) ∧
    (good → (∀ t, (s.tile t).state = .disabled) → exec .configureWall s = .next { s.hostAccess with
      cu := ended s 0x01 .ok []
      map := ⟨w.toNat, b.toNat, Vector.replicate 48 none, 0, 0, 0, 1, 0, s.map.sweep⟩ })

/-- MAP_SET, SET_ROLL_REGION and ROLL change the map at the instant they are taken; the changed set is the wall bands whose resolved
source differs, ascending; an empty one ends the command, any other starts the sweep (R28, R29, R31, R32, R33). -/
def Obligations.MapCommandsTakeTheNewMap : Prop :=
  (∀ (w k b : Word) (s : State), Accepted s [w, k, b] →
    let good := w.toNat < s.map.bandCount ∧ (k = 0 ∨ k = 1 ∧ b.toNat ≤ 63)
    (¬ good → exec .mapSet s = .next { s.hostAccess with cu := ended s 0x06 .range [] }) ∧
    (good → exec .mapSet s = .next (afterMapCommand s 0x06 { s.map with
      entries := s.map.entries.set (Fin.ofNat 48 w.toNat) (if k = 1 then some (Fin.ofNat 64 b.toNat) else none) }))) ∧
  (∀ (f n rb rc o : Word) (s : State), Accepted s [f, n, rb, rc, o] →
    let good := f.toNat + n.toNat ≤ s.map.bandCount ∧ 1 ≤ rc.toNat ∧ rc.toNat ≤ 64 ∧ rb.toNat ≤ 63 ∧
      rb.toNat + rc.toNat ≤ 64 ∧ o.toNat < rc.toNat
    (¬ good → exec .setRollRegion s = .next { s.hostAccess with cu := ended s 0x08 .range [] }) ∧
    (good → exec .setRollRegion s = .next (afterMapCommand s 0x08 { s.map with
      rollFirst := f.toNat, rollCount := n.toNat, ringBase := rb.toNat, ringCount := rc.toNat, origin := o.toNat }))) ∧
  (∀ (d : Word) (s : State), Accepted s [d] → 1 ≤ s.map.ringCount →
    let good := -63 ≤ d.toInt ∧ d.toInt ≤ 63
    (¬ good → exec .roll s = .next { s.hostAccess with cu := ended s 0x09 .range [] }) ∧
    (good → s.map.rollCount = 0 → exec .roll s = .next { s.hostAccess with cu := ended s 0x09 .state [] }) ∧
    (good → s.map.rollCount ≠ 0 → ∃ o : Nat, o < s.map.ringCount ∧
      (∃ q : Int, (s.map.origin : Int) + d.toInt = q * s.map.ringCount + o) ∧
      exec .roll s = .next (afterMapCommand s 0x09 { s.map with origin := o }))) ∧
  (∀ m m' : BandMap, (m.changedSet m').Pairwise (· < ·) ∧
    ∀ w, w ∈ m.changedSet m' ↔ w.val < m'.bandCount ∧ m.resolve w ≠ m'.resolve w)

/-- MAP_READ is refused with RANGE at or beyond the band count and returns the five words of R30 otherwise; it changes nothing else,
and while the unit is BUSY it collides. -/
def Obligations.MapReadReturnsFiveWords : Prop :=
  (∀ (v : Word) (s : State), Accepted s [v] →
    (s.map.bandCount ≤ v.toNat → exec .mapRead s = .next { s.hostAccess with cu := ended s 0x07 .range [] }) ∧
    (∀ w : WallBand, w.val = v.toNat → v.toNat < s.map.bandCount →
      let words : List Word :=
        [if s.map.entries[w] = none then 0 else 1,
         (s.map.entries[w]).elim 0 fun b => BitVec.ofNat 16 b.val,
         if s.map.resolve w = none then 0 else 1,
         (s.map.resolve w).elim 0 fun b => BitVec.ofNat 16 b.val,
         if s.map.rollCount ≠ 0 ∧ s.map.rollFirst ≤ w.val ∧ w.val < s.map.rollFirst + s.map.rollCount then 1 else 0]
      exec .mapRead s = .next { s.hostAccess with cu := ended s 0x07 .ok words })) ∧
  (∀ s : State, s.nReset = true → s.cu.busy = true →
    exec .mapRead s = .next { s.hostAccess with cu := { s.cu with collision := true } })

/-- REMAP_SWEEP_PASS hands M to the cells of the wall band at the cursor whose tiles are ACTIVE, and to no other cell; after the last
wall band the sweep is idle and the map command ends OK (R34, R59). -/
def Obligations.SweepPassReachesActiveTiles : Prop :=
  ∀ (changed : List WallBand) (w : WallBand) (rest : List WallBand) (s : State), s.nReset = true →
    s.map.sweep = some ⟨changed, w :: rest⟩ →
    ∃ t, exec .remapSweepPass s = .next t ∧
      ChangedWhere s t (fun u v => v = w ∧ (s.tile u).state = .active ∧ (s.tile u).hasBand w = true) ∧
      { t with cells := s.cells } = { s with
        map := { s.map with sweep := if rest = [] then none else some ⟨changed, rest⟩ }
        cu := if rest = [] then endedOk s.cu else s.cu }

/-- The resolved source of a wall band (R26). -/
def Obligations.ResolutionFollowsTheRing : Prop :=
  ∀ (m : BandMap) (w : WallBand), MapSound m → w.val < m.bandCount →
    ((m.rollCount ≠ 0 ∧ m.rollFirst ≤ w.val ∧ w.val < m.rollFirst + m.rollCount) →
      ∃ b, m.resolve w = some b ∧ b.val = m.ringBase + (m.origin + w.val - m.rollFirst) % m.ringCount) ∧
    (¬(m.rollCount ≠ 0 ∧ m.rollFirst ≤ w.val ∧ w.val < m.rollFirst + m.rollCount) → m.resolve w = m.entries[w])

/-! ## Tiles, queries, cells and the Walker -/

/-- TILE_SET writes the six fields of a DISABLED tile and nothing else; RANGE and STATE refuse it (R42). -/
def Obligations.TileSetWritesThePlacement : Prop :=
  ∀ (i k p c w f n : Word) (s : State), Accepted s [i, k, p, c, w, f, n] →
    let good := i.toNat ≤ 15 ∧ k.toNat ≤ 3 ∧ p.toNat ≤ 3 ∧ c.toNat % 8 = 0 ∧ c.toNat ≤ 504 ∧
      w.toNat % 8 = 0 ∧ 8 ≤ w.toNat ∧ w.toNat ≤ 512 ∧ c.toNat + w.toNat ≤ 512 ∧ f.toNat ≤ 47 ∧
      1 ≤ n.toNat ∧ n.toNat ≤ 48 ∧ f.toNat + n.toNat ≤ 48
    (¬ good → exec .tileSet s = .next { s.hostAccess with cu := ended s 0x0A .range [] }) ∧
    (∀ t : TileIdx, t.val = i.toNat → good → (s.tile t).state ≠ .disabled →
      exec .tileSet s = .next { s.hostAccess with cu := ended s 0x0A .state [] }) ∧
    (∀ t : TileIdx, t.val = i.toNat → good → (s.tile t).state = .disabled →
      exec .tileSet s = .next { s.hostAccess with
        cu := ended s 0x0A .ok []
        tiles := s.tiles.set t
          ⟨.disabled, Fin.ofNat 4 k.toNat, Fin.ofNat 4 p.toNat, c.toNat, w.toNat, f.toNat, n.toNat⟩ })

/-- TILE_ENABLE makes a tile ACTIVE when its link is UP and its chain position present, WAITING otherwise, and returns which; its
refusals come in the order RANGE, STATE, GEOMETRY, CONFLICT (R43). -/
def Obligations.TileEnableChoosesTheState : Prop :=
  ∀ (v : Word) (s : State), Accepted s [v] →
    (15 < v.toNat → exec .tileEnable s = .next { s.hostAccess with cu := ended s 0x0B .range [] }) ∧
    (∀ t : TileIdx, t.val = v.toNat →
      let r := s.tile t
      let outside := s.map.width < r.firstColumn + r.width ∨ s.map.bandCount < r.firstBand + r.bandCount ∨
        r.width = 0 ∨ r.bandCount = 0
      let taken := ∃ u, u ≠ t ∧ (s.tile u).state ≠ .disabled ∧ (s.tile u).link = r.link ∧ (s.tile u).position = r.position
      let up := (s.link r.link).state = .up ∧ ((s.link r.link).position r.position).present = true
      (r.state ≠ .disabled → exec .tileEnable s = .next { s.hostAccess with cu := ended s 0x0B .state [] }) ∧
      (r.state = .disabled → outside → exec .tileEnable s = .next { s.hostAccess with cu := ended s 0x0B .geometry [] }) ∧
      (r.state = .disabled → ¬ outside → taken →
        exec .tileEnable s = .next { s.hostAccess with cu := ended s 0x0B .conflict [] }) ∧
      (r.state = .disabled → ¬ outside → ¬ taken → up → exec .tileEnable s = .next { s.hostAccess with
        cu := ended s 0x0B .ok [1], tiles := s.tiles.set t { r with state := .active } }) ∧
      (r.state = .disabled → ¬ outside → ¬ taken → ¬ up → exec .tileEnable s = .next { s.hostAccess with
        cu := ended s 0x0B .ok [0], tiles := s.tiles.set t { r with state := .waiting } }))

/-- TILE_DISABLE of a WAITING tile changes its state alone (log entry 29); of an ACTIVE tile it removes its entries, orphans its records,
abandons a dispatch of its entry, makes its cells STALE and unmarked, and ends a present or query that needed it with its record, any
other going on; the chain position records stay (R44, R41, R81, R93, R159, R160, R52, R147). -/
def Obligations.TileDisableGivesUpItsWork : Prop :=
  (∀ (v : Word) (s : State), Accepted s [v] → 15 < v.toNat →
    exec .tileDisable s = .next { s.hostAccess with cu := ended s 0x0C .range [] }) ∧
  (∀ (v : Word) (u : TileIdx) (s : State), Accepted s [v] → v.toNat = u.val →
    let r := s.tile u
    let l := s.link r.link
    (r.state = .disabled → exec .tileDisable s = .next { s.hostAccess with cu := ended s 0x0C .state [] }) ∧
    (r.state = .waiting → exec .tileDisable s = .next { s.hostAccess with
      cu := ended s 0x0C .ok [], tiles := s.tiles.set u { r with state := .disabled } }) ∧
    (r.state = .active → l.queue.length ≤ 32 →
      ∃ t, exec .tileDisable s = .next t ∧
        t.cu = ended s 0x0C .ok [] ∧ t.tiles = s.tiles.set u { r with state := .disabled } ∧
        (t.link r.link).queue = ((l.queue ++ l.backlog).filter fun e => e.tile != u).take 32 ∧
        (t.link r.link).backlog = ((l.queue ++ l.backlog).filter fun e => e.tile != u).drop 32 ∧
        (t.link r.link).hold = (l.hold.map fun h => if h.tile = u then { h with orphan := true } else h) ∧
        (t.link r.link).engine =
          (if l.dispatches u then stoppedEngine (s.holds (.capture r.link)) l.engine else l.engine) ∧
        { t.link r.link with
          queue := l.queue, backlog := l.backlog, hold := l.hold, engine := l.engine } = l ∧
        (∀ j, j ≠ r.link → t.link j = s.link j) ∧
        Departed s t s.attention [u] ((l.queue ++ l.backlog).filter fun e => e.tile = u) ∧
        t.arbiter = withdrawnWhenIdle s t r.link ∧ t.store = s.store ∧ t.map = s.map ∧ t.window = s.window ∧
        t.fill = s.fill ∧ t.timers = s.timers ∧ t.walker = s.walker ∧ t.bus = s.hostAccess.bus ∧
        t.notReady = s.notReady ∧ t.nReset = s.nReset))

/-- TILE_READ, QUERY_READ, CELL_READ and PRESENT_READ return the words of their records and change nothing but the Command Unit; an
index out of range is refused with RANGE (R46, R53, R76, R167). -/
def Obligations.ReadCommandsReturnTheRecords : Prop :=
  (∀ (v : Word) (s : State), Accepted s [v] →
    (15 < v.toNat → exec .tileRead s = .next { s.hostAccess with cu := ended s 0x0D .range [] }) ∧
    (∀ t : TileIdx, t.val = v.toNat →
      exec .tileRead s = .next { s.hostAccess with cu := ended s 0x0D .ok (s.tileReadWords t) })) ∧
  (∀ s : State, Accepted s [] →
    exec .queryRead s = .next { s.hostAccess with cu := ended s 0x0F .ok s.query.words } ∧
    exec .presentRead s = .next { s.hostAccess with cu := ended s 0x18 .ok s.present.words }) ∧
  (∀ (i v : Word) (s : State), Accepted s [i, v] →
    (15 < i.toNat ∨ 47 < v.toNat → exec .cellRead s = .next { s.hostAccess with cu := ended s 0x10 .range [] }) ∧
    (∀ (t : TileIdx) (w : WallBand), t.val = i.toNat → w.val = v.toNat →
      exec .cellRead s = .next { s.hostAccess with cu := ended s 0x10 .ok (s.cellReadWords t w) }))

/-- The fields of the result words stand in the places of Table 11-7 and read back as the record's values, and every location of Table
11-1 reads as Table 11-6 gives, the codes of states and results being the tables' own; a read with an effect gives the host that word
(R185, R186, R177, R172, R174, R175, R176, R182, R13). -/
def Obligations.WordsHoldTheirFields : Prop :=
  (∀ (s : State) (t : TileIdx), ∃ a b c d e f g h, s.tileReadWords t = [a, b, c, d, e, f, g, h] ∧
    a.toNat = (s.tile t).state.code ∧
    (b.extractLsb' 0 2).toNat = (s.tile t).link.val ∧ (b.extractLsb' 4 2).toNat = (s.tile t).position.val ∧
    ((s.tile t).firstColumn ≤ 504 → c.toNat = (s.tile t).firstColumn) ∧ ((s.tile t).width ≤ 512 → d.toNat = (s.tile t).width) ∧
    ((s.tile t).firstBand ≤ 47 → (e.extractLsb' 0 6).toNat = (s.tile t).firstBand) ∧
    ((s.tile t).bandCount ≤ 48 → (e.extractLsb' 8 6).toNat = (s.tile t).bandCount) ∧
    let p := (s.link (s.tile t).link).position (s.tile t).position
    f.getLsbD 0 = p.present ∧ (p.capacity ≤ 15 → (f.extractLsb' 4 4).toNat = p.capacity) ∧
    (p.credit ≤ 15 → (f.extractLsb' 8 4).toNat = p.credit) ∧
    (p.outstanding ≤ 15 → (g.extractLsb' 0 4).toNat = p.outstanding) ∧ g.extractLsb' 8 8 = p.lastFreed ∧
    h.extractLsb' 0 4 = p.restart ∧ h.getLsbD 7 = p.shownValid ∧ h.extractLsb' 8 8 = p.shown) ∧
  (∀ q : QueryRecord, ∃ a b c d e f, q.words = [a, b, c, d, e, f] ∧
    a.getLsbD 0 = q.waiting ∧ (a.extractLsb' 8 2).toNat = q.outcome.code ∧
    (b.extractLsb' 0 4).toNat = q.tile.val ∧ b.extractLsb' 8 8 = q.tag ∧
    c.extractLsb' 0 4 = q.capacity ∧ c.extractLsb' 8 4 = q.restart ∧ d.toNat = q.shown.toNat ∧ e ++ f = q.tileWord) ∧
  (∀ (s : State) (t : TileIdx) (w : WallBand), ∃ a b c d, s.cellReadWords t w = [a, b, c, d] ∧
    a.toNat = (s.cell t w).state.code ∧ b.getLsbD 0 = (s.cell t w).marked ∧ b.getLsbD 1 = (s.tile t).hasBand w ∧
    (c.extractLsb' 0 1).toNat = s.walker.mode.code ∧ c.getLsbD 1 = s.walkerRunning ∧
    (d.extractLsb' 0 4).toNat = s.walker.tile.val ∧ (d.extractLsb' 8 6).toNat = s.walker.band.val) ∧
  (∀ p : PresentRecord, ∃ a b c d e, p.words = [a, b, c, d, e] ∧
    (a.extractLsb' 0 2).toNat = p.state.code ∧ (a.extractLsb' 8 3).toNat = p.outcome.code ∧ b.toNat = p.number.toNat ∧
    (p.remaining ≤ 768 → c.toNat = p.remaining) ∧
    (∀ t : TileIdx, d.getLsbD t.val = TileSet.has p.participants t ∧ e.getLsbD t.val = TileSet.has p.shown t)) ∧
  (∀ c : CommandUnit, c.status.extractLsb' 0 8 = c.lastCode ∧ (c.status.extractLsb' 8 4).toNat = c.lastResult.code ∧
    c.status.getLsbD 12 = c.done ∧ c.status.getLsbD 13 = c.collision ∧ c.status.getLsbD 14 = c.overflow) ∧
  (∀ s : State,
    s.readLocation 0x00 = 0x4A44 ∧ s.readLocation 0x01 = 0x4820 ∧ s.readLocation 0x02 = 0x0001 ∧
    (s.cu.params.length ≤ 8 → s.cu.results.length ≤ 8 → (s.readLocation 0x03).toNat =
      s.notReady.toNat + 2 * s.cu.busy.toNat + 4 * s.present.state.code + 16 * s.cu.params.length +
        256 * s.cu.results.length) ∧
    (∀ v rest, s.cu.results = v :: rest → s.readLocation 0x06 = v) ∧ (s.cu.results = [] → s.readLocation 0x06 = 0) ∧
    (s.readLocation 0x07).toNat = s.cu.lastCode.toNat + 256 * s.cu.lastResult.code + 4096 * s.cu.done.toNat +
      8192 * s.cu.collision.toNat + 16384 * s.cu.overflow.toNat ∧
    s.readLocation 0x08 = (if s.fill.running ∨ s.notReady then 0 else s.window.latch) ∧
    s.readLocation 0x09 = s.window.mask ∧
    (s.readLocation 0x0A).toNat = s.window.wrapped.toNat + 2 * s.window.windowBusy.toNat ∧
    (s.readLocation 0x0B).toNat = s.present.state.code + 4 * s.present.outcome.code + 256 * s.present.number.toNat ∧
    (s.present.remaining ≤ 768 → (s.readLocation 0x0C).toNat = s.present.remaining) ∧
    (∀ v rest, s.attention.readOut = v :: rest → s.readLocation 0x0D = v) ∧
    (∀ r rest, s.attention.readOut = [] → s.attention.records = r :: rest → s.readLocation 0x0D = r.word1) ∧
    (s.attention.readOut = [] → s.attention.records = [] → s.readLocation 0x0D = 0) ∧
    (s.attention.records.length ≤ 16 →
      (s.readLocation 0x0E).toNat = s.attention.records.length + 32768 * s.attention.gapFlag.toNat) ∧
    (s.readLocation 0x0F).toNat = s.attention.attentionEnable.toNat + 2 * s.attention.doneEnable.toNat ∧
    (s.readLocation 0x10).toNat = (if s.attention.records = [] then 0 else 1) + 2 * s.cu.done.toNat ∧
    (∀ (k : Link) (a : Fin 32), a.val = 0x11 + k.val → (s.readLocation a).toNat =
      (s.link k).state.code + 4 * (s.link k).replayPoint.isSome.toNat + 8 * (s.link k).stray.toNat +
        16 * (s.link k).badNotice.toNat + 32 * (s.link k).creditExcess.toNat) ∧
    (∀ a : Fin 32, a = 0x04 ∨ a = 0x05 ∨ 0x15 ≤ a → s.readLocation a = 0) ∧
    (∀ (a : Fin 32) (c : Instr), hostRead a = some c → s.nReset = true →
      (a = 0x08 → s.fill.running = true ∨ s.notReady = true ∨ WindowFree s) →
      ∃ t, exec c s = .next t ∧ t.bus.data = s.readLocation a)) ∧
  [ResultCode.ok, .busy, .notReady, .unknown, .short, .long, .range, .geometry, .state, .conflict, .noTiles, .tooLate].map
    ResultCode.code = List.range 12 ∧
  [TileState.disabled, .waiting, .active].map TileState.code = [0, 1, 2] ∧
  [QueryOutcome.none, .done, .timeout, .lost].map QueryOutcome.code = [0, 1, 2, 3] ∧
  [CellState.clean, .stale, .queued, .inflight, .inflightStale].map CellState.code = [0, 1, 2, 3, 4] ∧
  [WalkerMode.auto, .manual].map WalkerMode.code = [0, 1] ∧
  [PresentState.idle, .collecting, .showing].map PresentState.code = [0, 1, 2] ∧
  [PresentOutcome.none, .done, .partially, .failed, .timeout, .cancelled, .reset].map PresentOutcome.code = List.range 7 ∧
  [LinkState.off, .training, .up, .fault].map LinkState.code = [0, 1, 2, 3]

/-- QUERY_TILE begins a query with the next tag and appends its QUERY entry; its refusals come in the order RANGE, STATE, BUSY for a
waiting query, BUSY for a full queue (R49). -/
def Obligations.QueryTileQueuesAQuery : Prop :=
  ∀ (v : Word) (s : State), Accepted s [v] →
    (15 < v.toNat → exec .queryTile s = .next { s.hostAccess with cu := ended s 0x0E .range [] }) ∧
    (∀ t : TileIdx, t.val = v.toNat →
      let k := (s.tile t).link
      let busy := s.query.waiting = true ∨ 32 ≤ (s.link k).queue.length
      ((s.tile t).state ≠ .active → exec .queryTile s = .next { s.hostAccess with cu := ended s 0x0E .state [] }) ∧
      ((s.tile t).state = .active → busy → exec .queryTile s = .next { s.hostAccess with cu := ended s 0x0E .busy [] }) ∧
      ((s.tile t).state = .active → ¬ busy → exec .queryTile s = .next { s.hostAccess with
        cu := ended s 0x0E .ok [(s.query.tag + 1).setWidth 16]
        links := s.links.set k { s.link k with queue := (s.link k).queue ++ [.query t (s.query.tag + 1)] }
        query := ⟨true, t, s.query.tag + 1, .none, 0, 0, 0, 0, some s.timers.queryTimeout⟩ }))

/-- WALKER_EXAMINATION queues the cell at the cursor with Q exactly when R71's conditions hold, and moves the cursor tile by tile and
then band by band; a stopped Walker does nothing; SET_WALKER sets the mode and keeps the cursor (R69, R70, R71, R60, R75). -/
def Obligations.WalkerQueuesStaleCells : Prop :=
  (∀ s : State, s.nReset = true →
    let t := s.walker.tile
    let w := s.walker.band
    let k := (s.tile t).link
    let queues := (s.tile t).hasBand w = true ∧ (s.cell t w).state = .stale ∧ (s.tile t).state = .active ∧
      (s.link k).queue.length < 32 ∧ (s.present.state ≠ .collecting ∨ (s.cell t w).marked = true)
    let next : Walker := ⟨s.walker.mode, t + 1, if t = 15 then w + 1 else w⟩
    (¬(s.walker.mode = .auto ∨ s.present.state = .collecting) → exec .walkerExamination s = .next s) ∧
    (s.walker.mode = .auto ∨ s.present.state = .collecting →
      (¬ queues → exec .walkerExamination s = .next { s with walker := next }) ∧
      (queues → ∃ u, exec .walkerExamination s = .next u ∧
        u.cell t w = { s.cell t w with state := .queued } ∧
        (∀ x v, ¬(x = t ∧ v = w) → u.cell x v = s.cell x v) ∧
        { u with cells := s.cells } = { s with
          walker := next
          links := s.links.set k { s.link k with queue := (s.link k).queue ++ [.cell t w] } }))) ∧
  (∀ (v : Word) (s : State), Accepted s [v] →
    (1 < v.toNat → exec .setWalker s = .next { s.hostAccess with cu := ended s 0x11 .range [] }) ∧
    (v.toNat ≤ 1 → exec .setWalker s = .next { s.hostAccess with
      cu := ended s 0x11 .ok []
      walker := ⟨if v = 0 then .auto else .manual, s.walker.tile, s.walker.band⟩ }))

/-- SET_TIMER writes the setting its selector names, within the range of Table 11-5, and starts, stops or restarts no timer (R183). -/
def Obligations.SetTimerWritesOneSetting : Prop :=
  ∀ (i v : Word) (s : State), Accepted s [i, v] →
    let n := v.toNat
    let good := i.toNat ≤ 4 ∧ 1 ≤ n ∧ n ≤ 255 ∧ (i = 1 → n ≤ 7) ∧ (i = 4 → n ≤ 15) ∨ i = 5 ∨ i = 6 ∧ 1 ≤ n ∧ n ≤ 255
    (¬ good → exec .setTimer s = .next { s.hostAccess with cu := ended s 0x19 .range [] }) ∧
    (good → exec .setTimer s = .next { s.hostAccess with
      cu := ended s 0x19 .ok []
      timers :=
        ⟨if i = 0 then n else s.timers.replayTimeout, if i = 1 then n else s.timers.replayLimit,
         if i = 2 then n else s.timers.silenceTimeout, if i = 3 then n else s.timers.attemptTime,
         if i = 4 then n else s.timers.attemptLimit, if i = 5 then n else s.timers.presentDeadline,
         if i = 6 then n else s.timers.queryTimeout⟩ })

/-! ## Links -/

/-- LINK_ENABLE, LINK_DISABLE and LINK_RESET of a link that is not UP; a link above 3 is refused with RANGE (R132, R133, R134, R115). -/
def Obligations.LinkCommandsOutsideUp : Prop :=
  ∀ (v : Word) (s : State), Accepted s [v] →
    (3 < v.toNat →
      exec .linkEnable s = .next { s.hostAccess with cu := ended s 0x12 .range [] } ∧
      exec .linkDisable s = .next { s.hostAccess with cu := ended s 0x13 .range [] } ∧
      exec .linkReset s = .next { s.hostAccess with cu := ended s 0x14 .range [] }) ∧
    (∀ k : Link, k.val = v.toNat →
      let l := s.link k
      let fresh := s.links.set k (attempting l s.timers.attemptTime 0)
      let off := s.links.set k { l with
        state := .off, partnerHeard := false, attemptTimer := none, helloInterval := false, tx := ⟨none, false⟩ }
      (l.state = .off →
        exec .linkEnable s = .next { s.hostAccess with cu := ended s 0x12 .ok [], links := fresh } ∧
        exec .linkDisable s = .next { s.hostAccess with cu := ended s 0x13 .ok [] } ∧
        exec .linkReset s = .next { s.hostAccess with cu := ended s 0x14 .state [] }) ∧
      (l.state = .training ∨ l.state = .fault →
        exec .linkDisable s = .next { s.hostAccess with cu := ended s 0x13 .ok [], links := off } ∧
        exec .linkReset s = .next { s.hostAccess with cu := ended s 0x14 .ok [], links := fresh }) ∧
      (l.state ≠ .off → exec .linkEnable s = .next { s.hostAccess with cu := ended s 0x12 .state [] }))

/-- LINK_CLEAR_FLAGS clears the three flags of its link in any link state and changes nothing else (R135). -/
def Obligations.LinkClearFlagsClearsThree : Prop :=
  ∀ (v : Word) (s : State), Accepted s [v] →
    (3 < v.toNat → exec .linkClearFlags s = .next { s.hostAccess with cu := ended s 0x15 .range [] }) ∧
    (∀ k : Link, k.val = v.toNat → exec .linkClearFlags s = .next { s.hostAccess with
      cu := ended s 0x15 .ok []
      links := s.links.set k { s.link k with stray := false, badNotice := false, creditExcess := false } })

/-- A link in UP is lost by the silence timer, by a valid HELLO, by LINK_RESET and by LINK_DISABLE, with its reason and in the way of
R131, with what that does to a present and a query (R129, R109, R134, R133, R41, R52, R159, R160). That partner heard is no after a loss
to OFF is log entry 19; that a removed SHOW entry's report precedes the departures, so that its tile is the one named, is log entry 14. -/
def Obligations.LossEndsTheUpPeriod : Prop :=
  (∀ (k : Link) (s : State), s.nReset = true → (s.link k).state = .up → (s.link k).silenceTimer ≠ none →
    ∃ t, exec (.silenceTimeout k) s = .next t ∧ LinkLost s t k .silence false ∧ t.cu = s.cu) ∧
  (∀ (k : Link) (seen : Bool) (n : BitVec 3) (capacity restart : Vector Nibble 4) (s : State), s.nReset = true →
    (s.link k).state = .up → HelloFit n capacity →
    ∃ t, exec (.helloNotice k seen n capacity restart) s = .next t ∧ LinkLost s t k .partnerHello false ∧ t.cu = s.cu) ∧
  (∀ (k : Link) (v : Word) (s : State), Accepted s [v] → k.val = v.toNat → (s.link k).state = .up →
    (∃ t, exec .linkReset s = .next t ∧ LinkLost s t k .host false ∧ t.cu = ended s 0x14 .ok []) ∧
    (∃ t, exec .linkDisable s = .next t ∧ LinkLost s t k .host true ∧ t.cu = ended s 0x13 .ok []))

/-- HELLO_INTERVAL hands over a HELLO with the seen of that instant, or leaves it waiting (log entry 17); TRANSMISSION_END frees the
transmitter or sends the waiting HELLO (log entry 16); ATTEMPT_TIMEOUT raises the attempt count and begins a new attempt or ends in
FAULT with its record (R97, R115, R92, R118). -/
def Obligations.TrainingTimersAndTransmitter : Prop :=
  (∀ (k : Link) (s : State), s.nReset = true → (s.link k).helloInterval = true →
    exec (.helloInterval k) s = .next { s with
      links := s.links.set k { s.link k with
        tx := helloHanded (s.link k).tx ((s.link k).partnerHeard || (s.link k).state == .up) } }) ∧
  (∀ (k : Link) (f : Frame) (s : State), s.nReset = true → (s.link k).tx.sending = some f →
    exec (.transmissionEnd k) s = .next { s with
      links := s.links.set k { s.link k with
        tx := if (s.link k).tx.helloWaiting
          then ⟨some (.hello ((s.link k).partnerHeard || (s.link k).state == .up)), false⟩ else ⟨none, false⟩ } }) ∧
  (∀ (k : Link) (s : State), s.nReset = true → (s.link k).attemptTimer ≠ none →
    ((s.link k).attemptCount + 1 < s.timers.attemptLimit →
      exec (.attemptTimeout k) s = .next { s with
        links := s.links.set k (attempting (s.link k) s.timers.attemptTime ((s.link k).attemptCount + 1)) }) ∧
    (s.timers.attemptLimit ≤ (s.link k).attemptCount + 1 →
      exec (.attemptTimeout k) s = .next { s with
        links := s.links.set k { s.link k with
          state := .fault, partnerHeard := false, attemptCount := (s.link k).attemptCount + 1, attemptTimer := none
          helloInterval := false, tx := ⟨(s.link k).tx.sending, false⟩ }
        attention := s.attention.append (.linkFault k ((s.link k).attemptCount + 1)) }))

/-- HELLO_NOTICE in TRAINING: a well-formed one makes partner heard yes and, with seen = yes, brings the link UP with its positions
loaded, LINK_UP and then one TILE_JOINED or TILE_MISSING for each enabled tile in ascending order, the tiles joined and the closing
HELLO handed over; one that is not well formed sets the bad-notice flag; in OFF and FAULT nothing happens (R104, R109, R116, R117, R140,
R40, R97). -/
def Obligations.HelloBringsTheLinkUp : Prop :=
  ∀ (k : Link) (seen : Bool) (n : BitVec 3) (capacity restart : Vector Nibble 4) (s : State), s.nReset = true →
    let c := Instr.helloNotice k seen n capacity restart
    let l := s.link k
    (l.state = .off ∨ l.state = .fault → exec c s = .next s) ∧
    (l.state = .training ∨ l.state = .up → ¬ HelloFit n capacity →
      exec c s = .next { s with links := s.links.set k { l with badNotice := true } }) ∧
    (l.state = .training → HelloFit n capacity → seen = false →
      exec c s = .next { s with links := s.links.set k { l with partnerHeard := true } }) ∧
    (l.state = .training → HelloFit n capacity → seen = true →
      ∃ t, exec c s = .next t ∧
        (∀ p : Position, (t.link k).position p =
          if p.val < n.toNat then ⟨true, (capacity[p]).toNat, (capacity[p]).toNat, 0, 0, restart[p], 0, false⟩
          else l.position p) ∧
        { t.link k with positions := l.positions } = { l with
          state := .up, partnerHeard := true, attemptCount := 0, attemptTimer := none, helloInterval := false
          nextSeq := 0, silenceTimer := some s.timers.silenceTimeout
          tx := helloHanded l.tx true } ∧
        (∀ j, j ≠ k → t.link j = s.link j) ∧
        (∀ u, t.tile u =
          if (s.tile u).state ≠ .disabled ∧ (s.tile u).link = k ∧ ((t.link k).position (s.tile u).position).present = true
          then { s.tile u with state := .active } else s.tile u) ∧
        t.attention = (((List.finRange 16).filter fun u => (s.tile u).state != .disabled && (s.tile u).link == k).map fun u =>
            if ((t.link k).position (s.tile u).position).present then AttentionEvent.tileJoined k u
            else .tileMissing k u (s.tile u).position).foldl Attention.append (s.attention.append (.linkUp k)) ∧
        { t with links := s.links, tiles := s.tiles, attention := s.attention } = s)

/-- ACK_NOTICE and NAK_NOTICE in range, in UP: the records an ACK names are released, with A for the cells of the live ones; a NAK
releases those before its number and, if that one is held, raises the count and begins a replay from it or, above the limit, loses the
link; a replay whose point is released goes on from the oldest record left or ends, its re-read given up; the silence timer restarts
(R119, R120, R121, R122, R124, R125, R128, R131, R62, R108). Sequence numbers in the hold list are consecutive by R91; that A leaves a
cell that is not in flight is log entry 15. -/
def Obligations.AcknowledgementsReleaseHeldRecords : Prop :=
  ∀ (k : Link) (s : State), s.nReset = true → (s.link k).state = .up → HoldConsecutive (s.link k) →
    (s.link k).hold.length ≤ 16 →
    let l := s.link k
    let timerAfter := fun n => if n = 0 then l.replayTimer
      else if l.hold.length ≤ n then none else some s.timers.replayTimeout
    let countAfter := fun n => if n = 0 then l.replayCount else 0
    (∀ n, n ≤ l.hold.length →
      ∃ t, exec (.ackNotice k (l.nextSeq - BitVec.ofNat 12 (l.hold.length - n) - 1)) s = .next t ∧ Released s t k n ∧
        (t.link k).replayCount = countAfter n ∧ (t.link k).replayTimer = timerAfter n ∧
        (t.link k).replayPoint = replayPointAfter l n ∧ (t.link k).engine = engineAfter s k n ∧
        (t.link k).silenceTimer = some s.timers.silenceTimeout) ∧
    (∃ t, exec (.nakNotice k l.nextSeq) s = .next t ∧ Released s t k l.hold.length ∧
      (t.link k).replayCount = countAfter l.hold.length ∧ (t.link k).replayTimer = timerAfter l.hold.length ∧
      (t.link k).replayPoint = replayPointAfter l l.hold.length ∧ (t.link k).engine = engineAfter s k l.hold.length ∧
      (t.link k).silenceTimer = some s.timers.silenceTimeout) ∧
    (∀ n, n < l.hold.length → countAfter n < s.timers.replayLimit →
      ∃ t, exec (.nakNotice k (l.nextSeq - BitVec.ofNat 12 (l.hold.length - n))) s = .next t ∧ Released s t k n ∧
        (t.link k).replayPoint = some (l.nextSeq - BitVec.ofNat 12 (l.hold.length - n)) ∧
        (t.link k).engine = stoppedReRead (s.holds (.capture k)) l.engine ∧
        (t.link k).replayCount = countAfter n + 1 ∧ (t.link k).replayTimer = some s.timers.replayTimeout ∧
        (t.link k).silenceTimer = some s.timers.silenceTimeout) ∧
    (∀ n, n < l.hold.length → s.timers.replayLimit ≤ countAfter n →
      ∃ m t, exec (.nakNotice k (l.nextSeq - BitVec.ofNat 12 (l.hold.length - n))) s = .next t ∧ Released s m k n ∧
        (m.link k).engine = engineAfter s k n ∧ LinkLost m t k .replayLimit false ∧ t.cu = s.cu)

/-- The release of the oldest record reports to the Present Unit: a live SHOW of the present joins the shown set, and ends it DONE
when every participant is in it; a live record of a marked INFLIGHT cell takes one from the remaining count, and at none left the
present enters SHOWING with one SHOW entry for each participant (R62, R154, R156, R157, R158). -/
def Obligations.ReleasesReportToThePresent : Prop :=
  ∀ (k : Link) (r : HoldRecord) (rest : List HoldRecord) (s : State), s.nReset = true → (s.link k).state = .up →
    HoldConsecutive (s.link k) → (s.link k).hold = r :: rest → rest.length ≤ 15 → r.orphan = false →
    let p := s.present
    (∀ n, r.body = .showTile n → p.state = .showing → n = p.number → TileSet.has p.participants r.tile = true →
      ∃ t, exec (.ackNotice k r.seq) s = .next t ∧ t.cells = s.cells ∧
        (∀ u, TileSet.has t.present.shown u = (u == r.tile || TileSet.has p.shown u)) ∧
        (TileSet.add p.shown r.tile = p.participants →
          { t.present with shown := p.shown } = { p with state := .idle, deadline := none, remaining := 0, outcome := .done } ∧
          t.attention = s.attention.append (.presentEnd .done p.number none none)) ∧
        (TileSet.add p.shown r.tile ≠ p.participants →
          { t.present with shown := p.shown } = p ∧ t.attention = s.attention)) ∧
    (∀ w, bodyBand r.body = some w → s.cell r.tile w = ⟨.inflight, true⟩ → p.state = .collecting →
      ∃ t, exec (.ackNotice k r.seq) s = .next t ∧ t.attention = s.attention ∧
        (∀ u v, t.cell u v = if u = r.tile ∧ v = w then ⟨.clean, false⟩ else s.cell u v) ∧
        (2 ≤ p.remaining → t.present = { p with remaining := p.remaining - 1 } ∧
          ∀ j, (t.link j).queue = (s.link j).queue ∧ (t.link j).backlog = (s.link j).backlog) ∧
        (p.remaining ≤ 1 → t.present = { p with state := .showing, remaining := 0 } ∧
          ∀ j, (t.link j).queue ++ (t.link j).backlog =
            (s.link j).queue ++ (s.link j).backlog ++ showEntries s j p.number (TileSet.has p.participants)))

/-- An ACK or NAK that is not in range, taken in UP, sets the stray acknowledgement flag, after it has been counted for the silence
timer, and changes nothing else (R123). -/
def Obligations.StrayAcknowledgementsSetTheFlag : Prop :=
  ∀ (k : Link) (q : SeqNo) (s : State), s.nReset = true → (s.link k).state = .up →
    let l := s.link k
    let t := { s with links := s.links.set k { l with stray := true, silenceTimer := some s.timers.silenceTimeout } }
    ((∀ i, i ≤ l.hold.length → q ≠ l.nextSeq - 1 - BitVec.ofNat 12 i) → exec (.ackNotice k q) s = .next t) ∧
    ((∀ i, i ≤ l.hold.length → q ≠ l.nextSeq - BitVec.ofNat 12 i) → exec (.nakNotice k q) s = .next t)

/-- TILE_STATUS_NOTICE in UP: at an absent position a stray flag; with another restart count the loss TILE_RESTART; otherwise the slots
freed since the last one return as credit, at most the outstanding ones, an excess setting its flag and record (R142 to R146). -/
def Obligations.TileStatusReturnsCredit : Prop :=
  ∀ (k : Link) (p : Position) (freed : Byte) (restart : Nibble) (shown : Byte) (s : State), s.nReset = true →
    (s.link k).state = .up →
    let c := Instr.tileStatusNotice k p freed restart shown
    let l := { s.link k with silenceTimer := some s.timers.silenceTimeout }
    let r := l.position p
    let d := (freed - r.lastFreed).toNat
    let r' := { r with lastFreed := freed, shown := shown, shownValid := true }
    (r.present = false → exec c s = .next { s with links := s.links.set k { l with stray := true } }) ∧
    (r.present = true → restart ≠ r.restart → ∃ t, exec c s = .next t ∧ LinkLost s t k .tileRestart false ∧ t.cu = s.cu) ∧
    (r.present = true → restart = r.restart → d ≤ r.outstanding → exec c s = .next { s with
      links := s.links.set k { l with
        positions := l.positions.set p { r' with credit := r.credit + d, outstanding := r.outstanding - d } } }) ∧
    (r.present = true → restart = r.restart → r.outstanding < d → ∃ subject, exec c s = .next { s with
      links := s.links.set k { l with
        positions := l.positions.set p { r' with credit := r.credit + r.outstanding, outstanding := 0 }
        creditExcess := true }
      attention := s.attention.append (.creditExcess k subject) } ∧
      ((∀ t, (s.tile t).state ≠ .disabled → (s.tile t).link = k → (s.tile t).position ≠ p) → subject = .position p) ∧
      (∀ t, (s.tile t).state ≠ .disabled → (s.tile t).link = k → (s.tile t).position = p →
        ∃ u, subject = .tile u ∧ (s.tile u).state ≠ .disabled ∧ (s.tile u).link = k ∧ (s.tile u).position = p))

/-- REPORT_NOTICE in UP ends the waiting query DONE when its link, position and tag match, and is stray otherwise; QUERY_TIMEOUT ends a
waiting query TIMEOUT; both write QUERY_END (R50, R51). -/
def Obligations.ReportsAndTimeoutEndTheQuery : Prop :=
  (∀ (k : Link) (p : Position) (tag : Byte) (capacity : Nibble) (shown : Byte) (restart : Nibble) (word : BitVec 32)
      (s : State), s.nReset = true → (s.link k).state = .up →
    let c := Instr.reportNotice k p tag capacity shown restart word
    let l := { s.link k with silenceTimer := some s.timers.silenceTimeout }
    let matched := s.query.waiting = true ∧ (s.tile s.query.tile).link = k ∧ (s.tile s.query.tile).position = p ∧
      s.query.tag = tag
    (matched → exec c s = .next { s with
      links := s.links.set k l
      query := ⟨false, s.query.tile, tag, .done, capacity, shown, restart, word, none⟩
      attention := s.attention.append (.queryEnd k s.query.tile .done tag) }) ∧
    (¬ matched → exec c s = .next { s with links := s.links.set k { l with stray := true } })) ∧
  (∀ s : State, s.nReset = true → s.query.waiting = true → s.query.timeout ≠ none →
    exec .queryTimeout s = .next { s with
      query := { s.query with waiting := false, outcome := .timeout, timeout := none }
      attention := s.attention.append
        (.queryEnd (s.tile s.query.tile).link s.query.tile .timeout s.query.tag) })

/-- IDLE_NOTICE restarts the silence timer in UP and does nothing in the other states; INVALID_NOTICE sets the bad-notice flag in TRAINING
and UP, restarts no timer, and does nothing in OFF and FAULT; the valid notices other than HELLO do nothing outside UP. The receiver
begins a notice at START, takes it whole when the length of its kind has come, as the command it is and by the state then in force, takes
bytes that a START or FILL ends early as one invalid notice, and ignores bytes outside a notice (R101, R102, R108, R109, R110, R188). -/
def Obligations.NoticesAreRoutedByTheLinkState : Prop :=
  ∀ (k : Link) (s : State), s.nReset = true →
    ((s.link k).state = .up → exec (.idleNotice k) s = .next { s with
      links := s.links.set k { s.link k with silenceTimer := some s.timers.silenceTimeout } }) ∧
    ((s.link k).state = .up ∨ (s.link k).state = .training → exec (.invalidNotice k) s = .next { s with
      links := s.links.set k { s.link k with badNotice := true } }) ∧
    ((s.link k).state = .off ∨ (s.link k).state = .fault → exec (.invalidNotice k) s = .next s) ∧
    ((s.link k).state ≠ .up →
      exec (.idleNotice k) s = .next s ∧
      (∀ q, exec (.ackNotice k q) s = .next s ∧ exec (.nakNotice k q) s = .next s) ∧
      (∀ p f r n, exec (.tileStatusNotice k p f r n) s = .next s) ∧
      (∀ p g y n r w, exec (.reportNotice k p g y n r w) s = .next s)) ∧
    ((s.link k).receiving = none →
      s.receive k .fill = .next s ∧ (∀ b, s.receive k (.data b) = .next s) ∧
      (∀ bytes, LengthOfKind bytes → s.receiveAll k (.start :: bytes.map .data) = exec (noticeCommand k bytes) s) ∧
      (∀ bytes, (∀ n, n ≤ bytes.length → ¬ LengthOfKind (bytes.take n)) →
        s.receiveAll k (.start :: bytes.map .data) =
          .next { s with links := s.links.set k { s.link k with receiving := some bytes } })) ∧
    (∀ bytes, (s.link k).receiving = some bytes → ¬ LengthOfKind bytes →
      s.receive k .fill = exec (.invalidNotice k) { s with links := s.links.set k { s.link k with receiving := none } } ∧
      s.receive k .start = exec (.invalidNotice k) { s with links := s.links.set k { s.link k with receiving := some [] } })

/-- REPLAY_TIMEOUT begins a replay from the oldest record, or loses the link when the count passes the limit; REPLAY_RETRANSMISSION hands
over the frame at the replay point or asks for a BAND's re-read; RE_READ_GRANT_END hands over the BAND frame with the segment of its
record's store band, or only frees the engine of a re-read given up (R124, R125, R126, R128, R131). That a replay which begins again gives
up a re-read of the record at its new replay point too is log entry 28. -/
def Obligations.ReplayRetransmitsHeldRecords : Prop :=
  (∀ (k : Link) (r : HoldRecord) (rest : List HoldRecord) (s : State), s.nReset = true → (s.link k).state = .up →
    (s.link k).replayTimer ≠ none → (s.link k).hold = r :: rest →
    ((s.link k).replayCount < s.timers.replayLimit → ∃ t, exec (.replayTimeout k) s = .next t ∧
      t.link k = { s.link k with
        replayCount := (s.link k).replayCount + 1, replayPoint := some r.seq
        replayTimer := some s.timers.replayTimeout
        engine := stoppedReRead (s.holds (.capture k)) (s.link k).engine } ∧
      (∀ j, j ≠ k → t.link j = s.link j) ∧ t.arbiter = withdrawnWhenIdle s t k ∧
      { t with links := s.links, arbiter := s.arbiter } = s) ∧
    (s.timers.replayLimit ≤ (s.link k).replayCount → ∃ t, exec (.replayTimeout k) s = .next t ∧
      LinkLost s t k .replayLimit false ∧ t.cu = s.cu)) ∧
  (∀ (k : Link) (q : SeqNo) (r : HoldRecord) (s : State), s.nReset = true → (s.link k).engine = .idle →
    (s.link k).tx.sending = none → (s.link k).replayPoint = some q → (s.link k).heldRecord q = some r →
    ((∃ w b x n, r.body = .band w b x n) → exec (.replayRetransmission k) s = .next { s with
      links := s.links.set k { s.link k with engine := .reRead r.seq }
      arbiter := s.arbiter.request (.capture k) }) ∧
    (¬(∃ w b x n, r.body = .band w b x n) → ∃ l', exec (.replayRetransmission k) s = .next { s with
      links := s.links.set k l' } ∧
      Retransmitted (s.link k) l' r (.sequenced r.seq r.position (s.present.state == .collecting) r.body []))) ∧
  (∀ (k : Link) (q : SeqNo) (r : HoldRecord) (w : WallBand) (b : StoreBand) (column width : Nat) (s : State),
    s.nReset = true → s.arbiter.holder = some (.capture k) → (s.link k).engine = .reRead q →
    (s.link k).heldRecord q = some r → r.body = .band w b column width →
    ∃ l', exec (.reReadGrantEnd k) s = .next { s with links := s.links.set k l', arbiter := s.arbiter.release } ∧
      Retransmitted (s.link k) l' r (.sequenced r.seq r.position (s.present.state == .collecting) r.body
        (Memory.segment s.store b column width))) ∧
  (∀ (k : Link) (s : State), s.nReset = true → s.arbiter.holder = some (.capture k) →
    (s.link k).engine = .givenUpReRead →
    exec (.reReadGrantEnd k) s = .next { s with
      links := s.links.set k { s.link k with engine := .idle }, arbiter := s.arbiter.release })

/-! ## Dispatch and capture -/

/-- The entry a Dispatcher selects is the oldest eligible one: no older entry names its tile, a CELL has credit at its tile's chain
position, and every older entry is held back by an older one of its own tile or is a CELL without credit (R85). -/
def Obligations.OldestEligibleEntryIsSelected : Prop :=
  ∀ (s : State) (k : Link),
    (∀ e, s.eligible k = some e → ∃ older newer, (s.link k).queue = older ++ e :: newer ∧
      (∀ d ∈ older, d.tile ≠ e.tile) ∧ (∀ t w, e = .cell t w → CreditAt s k t) ∧
      (∀ a d b, older = a ++ d :: b → (∃ x ∈ a, x.tile = d.tile) ∨ ∃ t w, d = .cell t w ∧ ¬ CreditAt s k t)) ∧
    (s.eligible k = none → ∀ a d b, (s.link k).queue = a ++ d :: b →
      (∃ x ∈ a, x.tile = d.tile) ∨ ∃ t w, d = .cell t w ∧ ¬ CreditAt s k t)

/-- DISPATCH_SELECTION: when R84's conditions hold, SHOW, QUERY and BLANK dispatches are completed in the instant, with the hold record,
the sequence number, the credit and the frame of R86 and R89, and any other CELL entry has its store band asked for; when they do not
hold, or nothing is eligible, nothing happens (R84, R86, R87, R89, R90, R91, R98, R61). That C leaves a cell that is not QUEUED is log
entry 15. -/
def Obligations.DispatchSelectionCompletesOrAsks : Prop :=
  ∀ (k : Link) (s : State), s.nReset = true →
    let c := Instr.dispatchSelection k
    (¬ MaySelect (s.link k) ∨ s.eligible k = none → exec c s = .next s) ∧
    (MaySelect (s.link k) →
      (∀ t n, s.eligible k = some (.showTile t n) → exec c s = .next { s with
        links := s.links.set k (completedLink s k (.showTile t n) (.showTile n) []) }) ∧
      (∀ t g, s.eligible k = some (.query t g) → exec c s = .next { s with
        links := s.links.set k (completedLink s k (.query t g) (.query g) []) }) ∧
      (∀ t w, s.eligible k = some (.cell t w) → s.map.resolve w = none → ∃ u, exec c s = .next u ∧
        Captured (s.cell t w) (u.cell t w) ∧
        (∀ x v, ¬(x = t ∧ v = w) → u.cell x v = s.cell x v) ∧
        { u with cells := s.cells } = { s with
          links := s.links.set k (completedLink s k (.cell t w) (.blank w) []) }) ∧
      (∀ t w b, s.eligible k = some (.cell t w) → s.map.resolve w = some b → exec c s = .next { s with
        links := s.links.set k { s.link k with engine := .dispatch t w b }
        arbiter := s.arbiter.request (.capture k) }))

/-- CAPTURE_GRANT_END: the dispatch completes as a BAND frame with the segment read when the wall band still resolves to the store band
read, as a BLANK frame when it resolves to BLANK, and asks again when it resolves to another store band; an abandoned read only frees
the engine; the grant ends (R88, R89, R90, R93, R99, R61). That C leaves a cell that is not QUEUED is log entry 15. -/
def Obligations.CaptureGrantEndCompletesOrAsksAgain : Prop :=
  ∀ (k : Link) (s : State), s.nReset = true → s.arbiter.holder = some (.capture k) →
    let c := Instr.captureGrantEnd k
    (∀ t w b, (s.link k).engine = .dispatch t w b →
      (∀ body payload,
        (s.map.resolve w = some b ∧ body = .band w b (s.tile t).firstColumn (s.tile t).width ∧
            payload = Memory.segment s.store b (s.tile t).firstColumn (s.tile t).width ∨
          s.map.resolve w = none ∧ body = .blank w ∧ payload = []) →
        ∃ u, exec c s = .next u ∧
          Captured (s.cell t w) (u.cell t w) ∧
          (∀ x v, ¬(x = t ∧ v = w) → u.cell x v = s.cell x v) ∧
          { u with cells := s.cells } = { s with
            links := s.links.set k (completedLink s k (.cell t w) body payload)
            arbiter := s.arbiter.release }) ∧
      (∀ b', s.map.resolve w = some b' → b' ≠ b → exec c s = .next { s with
        links := s.links.set k { s.link k with engine := .dispatch t w b' }
        arbiter := s.arbiter.release.request (.capture k) })) ∧
    ((s.link k).engine = .abandonedDispatch → exec c s = .next { s with
      links := s.links.set k { s.link k with engine := .idle }, arbiter := s.arbiter.release })

/-! ## Presents -/

/-- PRESENT: the cut marks the participants' cells that are not CLEAN and counts them, starts the deadline unless its setting is 0, and
collects; with none to deliver it shows at once; it returns its number; BUSY and NO_TILES refuse it (R152, R153, R156, R161). -/
def Obligations.PresentCutsAndCollects : Prop :=
  ∀ s : State, Accepted s [] →
    let number := s.present.number + 1
    let deadline := if s.timers.presentDeadline = 0 then none else some s.timers.presentDeadline
    let marks := fun (u : TileIdx) (w : WallBand) =>
      (s.tile u).state = .active ∧ (s.tile u).hasBand w = true ∧ (s.cell u w).state ≠ .clean
    (s.present.state ≠ .idle → exec .present s = .next { s.hostAccess with cu := ended s 0x16 .busy [] }) ∧
    (s.present.state = .idle → (∀ u, (s.tile u).state ≠ .active) →
      exec .present s = .next { s.hostAccess with cu := ended s 0x16 .noTiles [] }) ∧
    (s.present.state = .idle → (∃ u, (s.tile u).state = .active) →
      ∃ t, exec .present s = .next t ∧ t.cu = ended s 0x16 .ok [number.setWidth 16] ∧
        (∀ u w, (marks u w → t.cell u w = { s.cell u w with marked := true }) ∧ (¬ marks u w → t.cell u w = s.cell u w)) ∧
        (∀ u, TileSet.has t.present.participants u = ((s.tile u).state == .active)) ∧
        t.present.number = number ∧ t.present.shown = 0 ∧ t.present.outcome = .none ∧ t.present.deadline = deadline ∧
        ((∃ u w, marks u w) → t.present.state = .collecting ∧ 1 ≤ t.present.remaining ∧ t.links = s.links ∧
          ((∀ u w, (s.cell u w).marked = false) → t.present.remaining = markedCells t)) ∧
        ((∀ u w, ¬ marks u w) → t.present.state = .showing ∧ t.present.remaining = 0 ∧
          ∀ k, (t.link k).queue ++ (t.link k).backlog = (s.link k).queue ++ (s.link k).backlog ++
            showEntries s k number fun u => (s.tile u).state == .active) ∧
        { t with cu := s.cu, cells := s.cells, present := s.present, links := s.links } = s.hostAccess)

/-- CANCEL_PRESENT ends a present CANCELLED in COLLECTING and is refused with TOO_LATE in SHOWING and STATE in IDLE; PRESENT_DEADLINE ends a
present TIMEOUT from COLLECTING and PARTIAL, with the shown set, from SHOWING; every mark is cleared at an ending from COLLECTING (R158, R161, R162). -/
def Obligations.PresentsEndByCancelAndDeadline : Prop :=
  (∀ s : State, Accepted s [] →
    (s.present.state = .idle → exec .cancelPresent s = .next { s.hostAccess with cu := ended s 0x17 .state [] }) ∧
    (s.present.state = .showing → exec .cancelPresent s = .next { s.hostAccess with cu := ended s 0x17 .tooLate [] }) ∧
    (s.present.state = .collecting → ∃ t, exec .cancelPresent s = .next t ∧
      (∀ u w, t.cell u w = { s.cell u w with marked := false }) ∧
      { t with cells := s.cells } = { s.hostAccess with
        cu := ended s 0x17 .ok []
        present := { s.present with state := .idle, deadline := none, remaining := 0, outcome := .cancelled }
        attention := s.attention.append (.presentEnd .cancelled s.present.number none none) })) ∧
  (∀ s : State, s.nReset = true → s.present.deadline ≠ none →
    (s.present.state = .collecting → ∃ t, exec .presentDeadline s = .next t ∧
      (∀ u w, t.cell u w = { s.cell u w with marked := false }) ∧
      { t with cells := s.cells } = { s with
        present := { s.present with state := .idle, deadline := none, remaining := 0, outcome := .timeout }
        attention := s.attention.append (.presentEnd .timeout s.present.number none none) }) ∧
    (s.present.state = .showing → exec .presentDeadline s = .next { s with
      present := { s.present with state := .idle, deadline := none, remaining := 0, outcome := .partially }
      attention := s.attention.append (.presentEnd .partially s.present.number none (some s.present.shown)) }))

/-! ## Frames and notices -/

/-- The receiver reads each notice from its bytes by Table 11-10, ignoring the bits no field has, and takes a unit with a bad check, an
unknown kind or a wrong length as an invalid notice; the frames have the bytes and lengths of Table 11-9, a segment's pixels row by row,
and are sent as START, their bytes, and their check, FILL being sent when nothing is and at the end of a frame cut off (R188, R189, R102,
R104, R99, R92, R96). That bits 7..1 of byte 1 of a HELLO frame are 0 is log entry 34; that a cut-off frame's count of bytes is an
argument is log entry 26. -/
def Obligations.NoticesAreReadFromTheirBytes : Prop :=
  (∀ (k : Link) (bytes : List Byte), goodCheck bytes = false ∨ ¬ LengthOfKind bytes → noticeCommand k bytes = .invalidNotice k) ∧
  (∀ (kind : Byte) (rest : List Byte), goodCheck (withCheck (kind :: rest)) = true) ∧
  (∀ (k : Link) (hi lo : Byte) (q : SeqNo), q.toNat = (256 * hi.toNat + lo.toNat) % 4096 →
    noticeCommand k (withCheck [0x82, hi, lo]) = .ackNotice k q ∧
    noticeCommand k (withCheck [0x83, hi, lo]) = .nakNotice k q) ∧
  (∀ (k : Link) (p : Position) (b freed shown : Byte), p.val = b.toNat % 4 →
    noticeCommand k (withCheck [0x84, b, freed, shown]) = .tileStatusNotice k p freed (b.extractLsb' 4 4) shown) ∧
  (∀ (k : Link) (p : Position) (b tag shown r w3 w2 w1 w0 : Byte), p.val = b.toNat % 4 →
    noticeCommand k (withCheck [0x85, b, tag, shown, r, w3, w2, w1, w0]) =
      .reportNotice k p tag (b.extractLsb' 4 4) shown (r.extractLsb' 0 4) (w3 ++ w2 ++ w1 ++ w0)) ∧
  (∀ k : Link, noticeCommand k (withCheck [0x86]) = .idleNotice k) ∧
  (∀ (k : Link) (b p0 p1 p2 p3 : Byte) (n : BitVec 3) (capacity restart : Vector Nibble 4), n.toNat = b.toNat % 8 →
    capacity.toList = [p0.extractLsb' 4 4, p1.extractLsb' 4 4, p2.extractLsb' 4 4, p3.extractLsb' 4 4] →
    restart.toList = [p0.extractLsb' 0 4, p1.extractLsb' 0 4, p2.extractLsb' 0 4, p3.extractLsb' 0 4] →
    (HelloFit n capacity → noticeCommand k (withCheck [0x81, b, p0, p1, p2, p3]) =
      .helloNotice k (decide (128 ≤ b.toNat)) n capacity restart) ∧
    (¬ HelloFit n capacity → noticeCommand k (withCheck [0x81, b, p0, p1, p2, p3]) = .invalidNotice k)) ∧
  (∀ f : Frame, (∀ q p h w b column width payload, f = .sequenced q p h (.band w b column width) payload →
      column ≤ 504 ∧ width ≤ 512) →
    f.body.map (·.toNat) = frameBytes f ∧
    ∃ c3 c2 c1 c0 : Byte, c3 ++ c2 ++ c1 ++ c0 = crc32 f.body ∧ f.bytes = f.body ++ [c3, c2, c1, c0] ∧
      ∀ tx : Transmitter,
        (tx.sending = some f → tx.symbols = .start :: f.bytes.map Symbol.data) ∧ (tx.sending = none → tx.symbols = [.fill]) ∧
        ∀ n, n < f.bytes.length → f.cutSymbols n = (.start :: f.bytes.map Symbol.data).take (n + 1) ++ [.fill]) ∧
  (∀ (m : List Host.Cell) (b : StoreBand) (column width : Nat), (Memory.segment m b column width).length = 8 * width ∧
    ∀ (r i : Nat) (x y : Coord), r < 8 → i < width → x.val = column + i → y.val = 8 * b.val + r →
      (Memory.segment m b column width)[r * width + i]? = some (Memory.pixel m x y)) ∧
  (∀ seen, (Frame.hello seen).bytes.length = 6) ∧
  (∀ q p h w b column width payload, payload.length = 8 * width →
    (Frame.sequenced q p h (.band w b column width) payload).bytes.length = 12 + 16 * width) ∧
  (∀ q p h w n g, (Frame.sequenced q p h (.blank w) []).bytes.length = 8 ∧
    (Frame.sequenced q p h (.showTile n) []).bytes.length = 8 ∧ (Frame.sequenced q p h (.query g) []).bytes.length = 8)

/-! ## Invariants -/

/-- Every step keeps the store's canonical form and every FIFO within its depth (R178, R181, R168, R171; the form is log entry 8's). -/
def Obligations.StepKeepsStoreFormAndDepths : Prop :=
  ∀ s t : State, step s = .next t →
    (StoreForm s → StoreForm t) ∧ (FifosBounded s → FifosBounded t)

/-- Every step keeps the wall geometry and the roll region in their ranges, the enabled tiles inside the wall and their chain positions
distinct (R22, R25, R38, R43). -/
def Obligations.StepKeepsTheWallSound : Prop :=
  ∀ s t : State, WallSound s → step s = .next t → WallSound t

/-- Every step keeps the pointer inside the window, one command at a time, and the window side's other rules (R4, R12, R13, R2, R180, R181). -/
def Obligations.StepKeepsTheWindowSound : Prop :=
  ∀ s t : State, WindowSound s → step s = .next t → WindowSound t

/-- Every step keeps one request at most for each requester of the Store Arbiter, and nobody waiting at an idle store (R19). -/
def Obligations.StepKeepsTheArbiterSound : Prop :=
  ∀ s t : State, WindowSound s → ArbiterSound s → step s = .next t → ArbiterSound t

/-- Every step keeps the links, the tiles on them, their queues and a present's participants in agreement (R39, R77, R80, R84, R91, R114,
R124, R129, R148, R159, R160). -/
def Obligations.StepKeepsTheLinksSound : Prop :=
  ∀ s t : State, LinksSound s → step s = .next t → LinksSound t

/-- Every step keeps the credit law of R139 and the credit of a dispatch in progress (R85, R141). -/
def Obligations.StepKeepsTheCreditLaw : Prop :=
  ∀ s t : State, LinksSound s → CreditSound s → step s = .next t → CreditSound t

/-- Every step keeps the cells, the queues and the hold lists in agreement (R54, R55, R56). -/
def Obligations.StepKeepsTheCellsSound : Prop :=
  ∀ s t : State, LinksSound s → CellsSound s → step s = .next t → CellsSound t

/-- Every step keeps the marks and the remaining count of a present in agreement (R150, R153, R154, R158). -/
def Obligations.StepKeepsThePresentSound : Prop :=
  ∀ s t : State, LinksSound s → CellsSound s → PresentSound s → step s = .next t → PresentSound t

/-- The state right after reset meets every invariant. -/
def Obligations.ResetMeetsEveryInvariant : Prop :=
  StoreForm State.reset ∧ FifosBounded State.reset ∧ WallSound State.reset ∧ WindowSound State.reset ∧
  ArbiterSound State.reset ∧ LinksSound State.reset ∧ CreditSound State.reset ∧ CellsSound State.reset ∧
  PresentSound State.reset

end Statements
end

