-- ==== Sys2Proof/Laws/State.lean ====
section
/-! SUPPORT. What each named update leaves of each field of State, and what the reads of one link, tile, cell and position
give after it. Every field lemma is true by unfolding one record update. -/

namespace Sys2Proof.Machine

/-! ## Reads after updates -/

@[simp] theorem State.link_setLink_self (s : State) (k : Link) (l : LinkSlice) : (s.setLink k l).link k = l := by
  simp [State.link, State.setLink]

theorem State.link_setLink_of_ne (s : State) (k j : Link) (l : LinkSlice) (h : j ≠ k) :
    (s.setLink k l).link j = s.link j := by
  simp [State.link, State.setLink, Fin.val_inj, h.symm]

theorem State.link_setLink (s : State) (k j : Link) (l : LinkSlice) :
    (s.setLink k l).link j = if j = k then l else s.link j := by
  split
  · next h => simp [h]
  · next h => exact s.link_setLink_of_ne k j l h

theorem State.link_updateLink (s : State) (k j : Link) (f : LinkSlice → LinkSlice) :
    (s.updateLink k f).link j = if j = k then f (s.link k) else s.link j := s.link_setLink k j _

@[simp] theorem State.link_updateLink_self (s : State) (k : Link) (f : LinkSlice → LinkSlice) :
    (s.updateLink k f).link k = f (s.link k) := s.link_setLink_self k _

theorem State.tile_setTile (s : State) (t u : TileIdx) (r : TileRecord) :
    (s.setTile t r).tile u = if u = t then r else s.tile u := by
  simp only [State.tile, State.setTile, Fin.getElem_fin, Vector.getElem_set, Fin.val_inj]
  by_cases h : u = t
  · simp [h]
  · simp [h, Ne.symm h]

@[simp] theorem State.cell_mapCells (s : State) (f : TileIdx → WallBand → CellRecord → CellRecord) (t : TileIdx)
    (w : WallBand) : (s.mapCells f).cell t w = f t w (s.cell t w) := by
  simp [State.mapCells, State.cell]

theorem State.cell_setCell (s : State) (t u : TileIdx) (w v : WallBand) (x : CellRecord) :
    (s.setCell t w x).cell u v = if u = t ∧ v = w then x else s.cell u v := by
  by_cases h : u = t
  · by_cases g : v = w
    · simp [State.cell, State.setCell, h, g]
    · have g' : (w : Nat) ≠ v := fun e => g (Fin.ext e.symm)
      simp [State.cell, State.setCell, h, g, g']
  · have h' : (t : Nat) ≠ u := fun e => h (Fin.ext e.symm)
    simp [State.cell, State.setCell, h, h']

theorem LinkSlice.position_setPosition (l : LinkSlice) (p q : Position) (r : PositionRecord) :
    (l.setPosition p r).position q = if q = p then r else l.position q := by
  simp only [LinkSlice.position, LinkSlice.setPosition, Fin.getElem_fin, Vector.getElem_set, Fin.val_inj]
  by_cases h : q = p
  · simp [h]
  · simp [h, Ne.symm h]

/-! ## setLink -/

@[simp] theorem State.nReset_setLink (s : State) (k : Link) (l : LinkSlice) : (s.setLink k l).nReset = s.nReset := rfl
@[simp] theorem State.notReady_setLink (s : State) (k : Link) (l : LinkSlice) : (s.setLink k l).notReady = s.notReady := rfl
@[simp] theorem State.bus_setLink (s : State) (k : Link) (l : LinkSlice) : (s.setLink k l).bus = s.bus := rfl
@[simp] theorem State.cu_setLink (s : State) (k : Link) (l : LinkSlice) : (s.setLink k l).cu = s.cu := rfl
@[simp] theorem State.timers_setLink (s : State) (k : Link) (l : LinkSlice) : (s.setLink k l).timers = s.timers := rfl
@[simp] theorem State.window_setLink (s : State) (k : Link) (l : LinkSlice) : (s.setLink k l).window = s.window := rfl
@[simp] theorem State.fill_setLink (s : State) (k : Link) (l : LinkSlice) : (s.setLink k l).fill = s.fill := rfl
@[simp] theorem State.store_setLink (s : State) (k : Link) (l : LinkSlice) : (s.setLink k l).store = s.store := rfl
@[simp] theorem State.arbiter_setLink (s : State) (k : Link) (l : LinkSlice) : (s.setLink k l).arbiter = s.arbiter := rfl
@[simp] theorem State.map_setLink (s : State) (k : Link) (l : LinkSlice) : (s.setLink k l).map = s.map := rfl
@[simp] theorem State.tiles_setLink (s : State) (k : Link) (l : LinkSlice) : (s.setLink k l).tiles = s.tiles := rfl
@[simp] theorem State.query_setLink (s : State) (k : Link) (l : LinkSlice) : (s.setLink k l).query = s.query := rfl
@[simp] theorem State.cells_setLink (s : State) (k : Link) (l : LinkSlice) : (s.setLink k l).cells = s.cells := rfl
@[simp] theorem State.walker_setLink (s : State) (k : Link) (l : LinkSlice) : (s.setLink k l).walker = s.walker := rfl
@[simp] theorem State.present_setLink (s : State) (k : Link) (l : LinkSlice) : (s.setLink k l).present = s.present := rfl
@[simp] theorem State.attention_setLink (s : State) (k : Link) (l : LinkSlice) : (s.setLink k l).attention = s.attention := rfl
@[simp] theorem State.freeCount_setLink (s : State) (k : Link) (l : LinkSlice) : (s.setLink k l).freeCount = s.freeCount := rfl
@[simp] theorem State.pending_setLink (s : State) (k : Link) (l : LinkSlice) : (s.setLink k l).pending = s.pending := rfl

/-! ## updateLink -/

@[simp] theorem State.nReset_updateLink (s : State) (k : Link) (f : LinkSlice → LinkSlice) : (s.updateLink k f).nReset = s.nReset := rfl
@[simp] theorem State.notReady_updateLink (s : State) (k : Link) (f : LinkSlice → LinkSlice) : (s.updateLink k f).notReady = s.notReady := rfl
@[simp] theorem State.bus_updateLink (s : State) (k : Link) (f : LinkSlice → LinkSlice) : (s.updateLink k f).bus = s.bus := rfl
@[simp] theorem State.cu_updateLink (s : State) (k : Link) (f : LinkSlice → LinkSlice) : (s.updateLink k f).cu = s.cu := rfl
@[simp] theorem State.timers_updateLink (s : State) (k : Link) (f : LinkSlice → LinkSlice) : (s.updateLink k f).timers = s.timers := rfl
@[simp] theorem State.window_updateLink (s : State) (k : Link) (f : LinkSlice → LinkSlice) : (s.updateLink k f).window = s.window := rfl
@[simp] theorem State.fill_updateLink (s : State) (k : Link) (f : LinkSlice → LinkSlice) : (s.updateLink k f).fill = s.fill := rfl
@[simp] theorem State.store_updateLink (s : State) (k : Link) (f : LinkSlice → LinkSlice) : (s.updateLink k f).store = s.store := rfl
@[simp] theorem State.arbiter_updateLink (s : State) (k : Link) (f : LinkSlice → LinkSlice) : (s.updateLink k f).arbiter = s.arbiter := rfl
@[simp] theorem State.map_updateLink (s : State) (k : Link) (f : LinkSlice → LinkSlice) : (s.updateLink k f).map = s.map := rfl
@[simp] theorem State.tiles_updateLink (s : State) (k : Link) (f : LinkSlice → LinkSlice) : (s.updateLink k f).tiles = s.tiles := rfl
@[simp] theorem State.query_updateLink (s : State) (k : Link) (f : LinkSlice → LinkSlice) : (s.updateLink k f).query = s.query := rfl
@[simp] theorem State.cells_updateLink (s : State) (k : Link) (f : LinkSlice → LinkSlice) : (s.updateLink k f).cells = s.cells := rfl
@[simp] theorem State.walker_updateLink (s : State) (k : Link) (f : LinkSlice → LinkSlice) : (s.updateLink k f).walker = s.walker := rfl
@[simp] theorem State.present_updateLink (s : State) (k : Link) (f : LinkSlice → LinkSlice) : (s.updateLink k f).present = s.present := rfl
@[simp] theorem State.attention_updateLink (s : State) (k : Link) (f : LinkSlice → LinkSlice) : (s.updateLink k f).attention = s.attention := rfl
@[simp] theorem State.freeCount_updateLink (s : State) (k : Link) (f : LinkSlice → LinkSlice) : (s.updateLink k f).freeCount = s.freeCount := rfl
@[simp] theorem State.pending_updateLink (s : State) (k : Link) (f : LinkSlice → LinkSlice) : (s.updateLink k f).pending = s.pending := rfl

/-! ## setTile -/

@[simp] theorem State.nReset_setTile (s : State) (t : TileIdx) (r : TileRecord) : (s.setTile t r).nReset = s.nReset := rfl
@[simp] theorem State.notReady_setTile (s : State) (t : TileIdx) (r : TileRecord) : (s.setTile t r).notReady = s.notReady := rfl
@[simp] theorem State.bus_setTile (s : State) (t : TileIdx) (r : TileRecord) : (s.setTile t r).bus = s.bus := rfl
@[simp] theorem State.cu_setTile (s : State) (t : TileIdx) (r : TileRecord) : (s.setTile t r).cu = s.cu := rfl
@[simp] theorem State.timers_setTile (s : State) (t : TileIdx) (r : TileRecord) : (s.setTile t r).timers = s.timers := rfl
@[simp] theorem State.window_setTile (s : State) (t : TileIdx) (r : TileRecord) : (s.setTile t r).window = s.window := rfl
@[simp] theorem State.fill_setTile (s : State) (t : TileIdx) (r : TileRecord) : (s.setTile t r).fill = s.fill := rfl
@[simp] theorem State.store_setTile (s : State) (t : TileIdx) (r : TileRecord) : (s.setTile t r).store = s.store := rfl
@[simp] theorem State.arbiter_setTile (s : State) (t : TileIdx) (r : TileRecord) : (s.setTile t r).arbiter = s.arbiter := rfl
@[simp] theorem State.map_setTile (s : State) (t : TileIdx) (r : TileRecord) : (s.setTile t r).map = s.map := rfl
@[simp] theorem State.query_setTile (s : State) (t : TileIdx) (r : TileRecord) : (s.setTile t r).query = s.query := rfl
@[simp] theorem State.cells_setTile (s : State) (t : TileIdx) (r : TileRecord) : (s.setTile t r).cells = s.cells := rfl
@[simp] theorem State.walker_setTile (s : State) (t : TileIdx) (r : TileRecord) : (s.setTile t r).walker = s.walker := rfl
@[simp] theorem State.links_setTile (s : State) (t : TileIdx) (r : TileRecord) : (s.setTile t r).links = s.links := rfl
@[simp] theorem State.present_setTile (s : State) (t : TileIdx) (r : TileRecord) : (s.setTile t r).present = s.present := rfl
@[simp] theorem State.attention_setTile (s : State) (t : TileIdx) (r : TileRecord) : (s.setTile t r).attention = s.attention := rfl
@[simp] theorem State.freeCount_setTile (s : State) (t : TileIdx) (r : TileRecord) : (s.setTile t r).freeCount = s.freeCount := rfl
@[simp] theorem State.pending_setTile (s : State) (t : TileIdx) (r : TileRecord) : (s.setTile t r).pending = s.pending := rfl

/-! ## setCell -/

@[simp] theorem State.nReset_setCell (s : State) (t : TileIdx) (w : WallBand) (x : CellRecord) : (s.setCell t w x).nReset = s.nReset := rfl
@[simp] theorem State.notReady_setCell (s : State) (t : TileIdx) (w : WallBand) (x : CellRecord) : (s.setCell t w x).notReady = s.notReady := rfl
@[simp] theorem State.bus_setCell (s : State) (t : TileIdx) (w : WallBand) (x : CellRecord) : (s.setCell t w x).bus = s.bus := rfl
@[simp] theorem State.cu_setCell (s : State) (t : TileIdx) (w : WallBand) (x : CellRecord) : (s.setCell t w x).cu = s.cu := rfl
@[simp] theorem State.timers_setCell (s : State) (t : TileIdx) (w : WallBand) (x : CellRecord) : (s.setCell t w x).timers = s.timers := rfl
@[simp] theorem State.window_setCell (s : State) (t : TileIdx) (w : WallBand) (x : CellRecord) : (s.setCell t w x).window = s.window := rfl
@[simp] theorem State.fill_setCell (s : State) (t : TileIdx) (w : WallBand) (x : CellRecord) : (s.setCell t w x).fill = s.fill := rfl
@[simp] theorem State.store_setCell (s : State) (t : TileIdx) (w : WallBand) (x : CellRecord) : (s.setCell t w x).store = s.store := rfl
@[simp] theorem State.arbiter_setCell (s : State) (t : TileIdx) (w : WallBand) (x : CellRecord) : (s.setCell t w x).arbiter = s.arbiter := rfl
@[simp] theorem State.map_setCell (s : State) (t : TileIdx) (w : WallBand) (x : CellRecord) : (s.setCell t w x).map = s.map := rfl
@[simp] theorem State.tiles_setCell (s : State) (t : TileIdx) (w : WallBand) (x : CellRecord) : (s.setCell t w x).tiles = s.tiles := rfl
@[simp] theorem State.query_setCell (s : State) (t : TileIdx) (w : WallBand) (x : CellRecord) : (s.setCell t w x).query = s.query := rfl
@[simp] theorem State.walker_setCell (s : State) (t : TileIdx) (w : WallBand) (x : CellRecord) : (s.setCell t w x).walker = s.walker := rfl
@[simp] theorem State.links_setCell (s : State) (t : TileIdx) (w : WallBand) (x : CellRecord) : (s.setCell t w x).links = s.links := rfl
@[simp] theorem State.present_setCell (s : State) (t : TileIdx) (w : WallBand) (x : CellRecord) : (s.setCell t w x).present = s.present := rfl
@[simp] theorem State.attention_setCell (s : State) (t : TileIdx) (w : WallBand) (x : CellRecord) : (s.setCell t w x).attention = s.attention := rfl
@[simp] theorem State.freeCount_setCell (s : State) (t : TileIdx) (w : WallBand) (x : CellRecord) : (s.setCell t w x).freeCount = s.freeCount := rfl
@[simp] theorem State.pending_setCell (s : State) (t : TileIdx) (w : WallBand) (x : CellRecord) : (s.setCell t w x).pending = s.pending := rfl

/-! ## mapCells -/

@[simp] theorem State.nReset_mapCells (s : State) (f : TileIdx → WallBand → CellRecord → CellRecord) : (s.mapCells f).nReset = s.nReset := rfl
@[simp] theorem State.notReady_mapCells (s : State) (f : TileIdx → WallBand → CellRecord → CellRecord) : (s.mapCells f).notReady = s.notReady := rfl
@[simp] theorem State.bus_mapCells (s : State) (f : TileIdx → WallBand → CellRecord → CellRecord) : (s.mapCells f).bus = s.bus := rfl
@[simp] theorem State.cu_mapCells (s : State) (f : TileIdx → WallBand → CellRecord → CellRecord) : (s.mapCells f).cu = s.cu := rfl
@[simp] theorem State.timers_mapCells (s : State) (f : TileIdx → WallBand → CellRecord → CellRecord) : (s.mapCells f).timers = s.timers := rfl
@[simp] theorem State.window_mapCells (s : State) (f : TileIdx → WallBand → CellRecord → CellRecord) : (s.mapCells f).window = s.window := rfl
@[simp] theorem State.fill_mapCells (s : State) (f : TileIdx → WallBand → CellRecord → CellRecord) : (s.mapCells f).fill = s.fill := rfl
@[simp] theorem State.store_mapCells (s : State) (f : TileIdx → WallBand → CellRecord → CellRecord) : (s.mapCells f).store = s.store := rfl
@[simp] theorem State.arbiter_mapCells (s : State) (f : TileIdx → WallBand → CellRecord → CellRecord) : (s.mapCells f).arbiter = s.arbiter := rfl
@[simp] theorem State.map_mapCells (s : State) (f : TileIdx → WallBand → CellRecord → CellRecord) : (s.mapCells f).map = s.map := rfl
@[simp] theorem State.tiles_mapCells (s : State) (f : TileIdx → WallBand → CellRecord → CellRecord) : (s.mapCells f).tiles = s.tiles := rfl
@[simp] theorem State.query_mapCells (s : State) (f : TileIdx → WallBand → CellRecord → CellRecord) : (s.mapCells f).query = s.query := rfl
@[simp] theorem State.walker_mapCells (s : State) (f : TileIdx → WallBand → CellRecord → CellRecord) : (s.mapCells f).walker = s.walker := rfl
@[simp] theorem State.links_mapCells (s : State) (f : TileIdx → WallBand → CellRecord → CellRecord) : (s.mapCells f).links = s.links := rfl
@[simp] theorem State.present_mapCells (s : State) (f : TileIdx → WallBand → CellRecord → CellRecord) : (s.mapCells f).present = s.present := rfl
@[simp] theorem State.attention_mapCells (s : State) (f : TileIdx → WallBand → CellRecord → CellRecord) : (s.mapCells f).attention = s.attention := rfl
@[simp] theorem State.freeCount_mapCells (s : State) (f : TileIdx → WallBand → CellRecord → CellRecord) : (s.mapCells f).freeCount = s.freeCount := rfl
@[simp] theorem State.pending_mapCells (s : State) (f : TileIdx → WallBand → CellRecord → CellRecord) : (s.mapCells f).pending = s.pending := rfl

/-! ## deliver -/

@[simp] theorem State.nReset_deliver (s : State) (w : Word) : (s.deliver w).nReset = s.nReset := rfl
@[simp] theorem State.notReady_deliver (s : State) (w : Word) : (s.deliver w).notReady = s.notReady := rfl
@[simp] theorem State.cu_deliver (s : State) (w : Word) : (s.deliver w).cu = s.cu := rfl
@[simp] theorem State.timers_deliver (s : State) (w : Word) : (s.deliver w).timers = s.timers := rfl
@[simp] theorem State.window_deliver (s : State) (w : Word) : (s.deliver w).window = s.window := rfl
@[simp] theorem State.fill_deliver (s : State) (w : Word) : (s.deliver w).fill = s.fill := rfl
@[simp] theorem State.store_deliver (s : State) (w : Word) : (s.deliver w).store = s.store := rfl
@[simp] theorem State.arbiter_deliver (s : State) (w : Word) : (s.deliver w).arbiter = s.arbiter := rfl
@[simp] theorem State.map_deliver (s : State) (w : Word) : (s.deliver w).map = s.map := rfl
@[simp] theorem State.tiles_deliver (s : State) (w : Word) : (s.deliver w).tiles = s.tiles := rfl
@[simp] theorem State.query_deliver (s : State) (w : Word) : (s.deliver w).query = s.query := rfl
@[simp] theorem State.cells_deliver (s : State) (w : Word) : (s.deliver w).cells = s.cells := rfl
@[simp] theorem State.walker_deliver (s : State) (w : Word) : (s.deliver w).walker = s.walker := rfl
@[simp] theorem State.links_deliver (s : State) (w : Word) : (s.deliver w).links = s.links := rfl
@[simp] theorem State.present_deliver (s : State) (w : Word) : (s.deliver w).present = s.present := rfl
@[simp] theorem State.attention_deliver (s : State) (w : Word) : (s.deliver w).attention = s.attention := rfl
@[simp] theorem State.freeCount_deliver (s : State) (w : Word) : (s.deliver w).freeCount = s.freeCount := rfl
@[simp] theorem State.pending_deliver (s : State) (w : Word) : (s.deliver w).pending = s.pending := rfl

/-! ## request -/

@[simp] theorem State.nReset_request (s : State) (r : Requester) : (s.request r).nReset = s.nReset := rfl
@[simp] theorem State.notReady_request (s : State) (r : Requester) : (s.request r).notReady = s.notReady := rfl
@[simp] theorem State.bus_request (s : State) (r : Requester) : (s.request r).bus = s.bus := rfl
@[simp] theorem State.cu_request (s : State) (r : Requester) : (s.request r).cu = s.cu := rfl
@[simp] theorem State.timers_request (s : State) (r : Requester) : (s.request r).timers = s.timers := rfl
@[simp] theorem State.window_request (s : State) (r : Requester) : (s.request r).window = s.window := rfl
@[simp] theorem State.fill_request (s : State) (r : Requester) : (s.request r).fill = s.fill := rfl
@[simp] theorem State.store_request (s : State) (r : Requester) : (s.request r).store = s.store := rfl
@[simp] theorem State.map_request (s : State) (r : Requester) : (s.request r).map = s.map := rfl
@[simp] theorem State.tiles_request (s : State) (r : Requester) : (s.request r).tiles = s.tiles := rfl
@[simp] theorem State.query_request (s : State) (r : Requester) : (s.request r).query = s.query := rfl
@[simp] theorem State.cells_request (s : State) (r : Requester) : (s.request r).cells = s.cells := rfl
@[simp] theorem State.walker_request (s : State) (r : Requester) : (s.request r).walker = s.walker := rfl
@[simp] theorem State.links_request (s : State) (r : Requester) : (s.request r).links = s.links := rfl
@[simp] theorem State.present_request (s : State) (r : Requester) : (s.request r).present = s.present := rfl
@[simp] theorem State.attention_request (s : State) (r : Requester) : (s.request r).attention = s.attention := rfl
@[simp] theorem State.freeCount_request (s : State) (r : Requester) : (s.request r).freeCount = s.freeCount := rfl
@[simp] theorem State.pending_request (s : State) (r : Requester) : (s.request r).pending = s.pending := rfl

/-! ## releaseGrant -/

@[simp] theorem State.nReset_releaseGrant (s : State) : (s.releaseGrant).nReset = s.nReset := rfl
@[simp] theorem State.notReady_releaseGrant (s : State) : (s.releaseGrant).notReady = s.notReady := rfl
@[simp] theorem State.bus_releaseGrant (s : State) : (s.releaseGrant).bus = s.bus := rfl
@[simp] theorem State.cu_releaseGrant (s : State) : (s.releaseGrant).cu = s.cu := rfl
@[simp] theorem State.timers_releaseGrant (s : State) : (s.releaseGrant).timers = s.timers := rfl
@[simp] theorem State.window_releaseGrant (s : State) : (s.releaseGrant).window = s.window := rfl
@[simp] theorem State.fill_releaseGrant (s : State) : (s.releaseGrant).fill = s.fill := rfl
@[simp] theorem State.store_releaseGrant (s : State) : (s.releaseGrant).store = s.store := rfl
@[simp] theorem State.map_releaseGrant (s : State) : (s.releaseGrant).map = s.map := rfl
@[simp] theorem State.tiles_releaseGrant (s : State) : (s.releaseGrant).tiles = s.tiles := rfl
@[simp] theorem State.query_releaseGrant (s : State) : (s.releaseGrant).query = s.query := rfl
@[simp] theorem State.cells_releaseGrant (s : State) : (s.releaseGrant).cells = s.cells := rfl
@[simp] theorem State.walker_releaseGrant (s : State) : (s.releaseGrant).walker = s.walker := rfl
@[simp] theorem State.links_releaseGrant (s : State) : (s.releaseGrant).links = s.links := rfl
@[simp] theorem State.present_releaseGrant (s : State) : (s.releaseGrant).present = s.present := rfl
@[simp] theorem State.attention_releaseGrant (s : State) : (s.releaseGrant).attention = s.attention := rfl
@[simp] theorem State.freeCount_releaseGrant (s : State) : (s.releaseGrant).freeCount = s.freeCount := rfl
@[simp] theorem State.pending_releaseGrant (s : State) : (s.releaseGrant).pending = s.pending := rfl

/-! ## attend -/

@[simp] theorem State.nReset_attend (s : State) (e : AttentionEvent) : (s.attend e).nReset = s.nReset := rfl
@[simp] theorem State.notReady_attend (s : State) (e : AttentionEvent) : (s.attend e).notReady = s.notReady := rfl
@[simp] theorem State.bus_attend (s : State) (e : AttentionEvent) : (s.attend e).bus = s.bus := rfl
@[simp] theorem State.cu_attend (s : State) (e : AttentionEvent) : (s.attend e).cu = s.cu := rfl
@[simp] theorem State.timers_attend (s : State) (e : AttentionEvent) : (s.attend e).timers = s.timers := rfl
@[simp] theorem State.window_attend (s : State) (e : AttentionEvent) : (s.attend e).window = s.window := rfl
@[simp] theorem State.fill_attend (s : State) (e : AttentionEvent) : (s.attend e).fill = s.fill := rfl
@[simp] theorem State.store_attend (s : State) (e : AttentionEvent) : (s.attend e).store = s.store := rfl
@[simp] theorem State.arbiter_attend (s : State) (e : AttentionEvent) : (s.attend e).arbiter = s.arbiter := rfl
@[simp] theorem State.map_attend (s : State) (e : AttentionEvent) : (s.attend e).map = s.map := rfl
@[simp] theorem State.tiles_attend (s : State) (e : AttentionEvent) : (s.attend e).tiles = s.tiles := rfl
@[simp] theorem State.query_attend (s : State) (e : AttentionEvent) : (s.attend e).query = s.query := rfl
@[simp] theorem State.cells_attend (s : State) (e : AttentionEvent) : (s.attend e).cells = s.cells := rfl
@[simp] theorem State.walker_attend (s : State) (e : AttentionEvent) : (s.attend e).walker = s.walker := rfl
@[simp] theorem State.links_attend (s : State) (e : AttentionEvent) : (s.attend e).links = s.links := rfl
@[simp] theorem State.present_attend (s : State) (e : AttentionEvent) : (s.attend e).present = s.present := rfl
@[simp] theorem State.freeCount_attend (s : State) (e : AttentionEvent) : (s.attend e).freeCount = s.freeCount := rfl
@[simp] theorem State.pending_attend (s : State) (e : AttentionEvent) : (s.attend e).pending = s.pending := rfl

/-! ## collide -/

@[simp] theorem State.nReset_collide (s : State) : (s.collide).nReset = s.nReset := rfl
@[simp] theorem State.notReady_collide (s : State) : (s.collide).notReady = s.notReady := rfl
@[simp] theorem State.bus_collide (s : State) : (s.collide).bus = s.bus := rfl
@[simp] theorem State.timers_collide (s : State) : (s.collide).timers = s.timers := rfl
@[simp] theorem State.window_collide (s : State) : (s.collide).window = s.window := rfl
@[simp] theorem State.fill_collide (s : State) : (s.collide).fill = s.fill := rfl
@[simp] theorem State.store_collide (s : State) : (s.collide).store = s.store := rfl
@[simp] theorem State.arbiter_collide (s : State) : (s.collide).arbiter = s.arbiter := rfl
@[simp] theorem State.map_collide (s : State) : (s.collide).map = s.map := rfl
@[simp] theorem State.tiles_collide (s : State) : (s.collide).tiles = s.tiles := rfl
@[simp] theorem State.query_collide (s : State) : (s.collide).query = s.query := rfl
@[simp] theorem State.cells_collide (s : State) : (s.collide).cells = s.cells := rfl
@[simp] theorem State.walker_collide (s : State) : (s.collide).walker = s.walker := rfl
@[simp] theorem State.links_collide (s : State) : (s.collide).links = s.links := rfl
@[simp] theorem State.present_collide (s : State) : (s.collide).present = s.present := rfl
@[simp] theorem State.attention_collide (s : State) : (s.collide).attention = s.attention := rfl
@[simp] theorem State.freeCount_collide (s : State) : (s.collide).freeCount = s.freeCount := rfl
@[simp] theorem State.pending_collide (s : State) : (s.collide).pending = s.pending := rfl

/-! ## takeCommand -/

@[simp] theorem State.nReset_takeCommand (s : State) (code : Byte) : (s.takeCommand code).nReset = s.nReset := rfl
@[simp] theorem State.notReady_takeCommand (s : State) (code : Byte) : (s.takeCommand code).notReady = s.notReady := rfl
@[simp] theorem State.bus_takeCommand (s : State) (code : Byte) : (s.takeCommand code).bus = s.bus := rfl
@[simp] theorem State.timers_takeCommand (s : State) (code : Byte) : (s.takeCommand code).timers = s.timers := rfl
@[simp] theorem State.window_takeCommand (s : State) (code : Byte) : (s.takeCommand code).window = s.window := rfl
@[simp] theorem State.fill_takeCommand (s : State) (code : Byte) : (s.takeCommand code).fill = s.fill := rfl
@[simp] theorem State.store_takeCommand (s : State) (code : Byte) : (s.takeCommand code).store = s.store := rfl
@[simp] theorem State.arbiter_takeCommand (s : State) (code : Byte) : (s.takeCommand code).arbiter = s.arbiter := rfl
@[simp] theorem State.map_takeCommand (s : State) (code : Byte) : (s.takeCommand code).map = s.map := rfl
@[simp] theorem State.tiles_takeCommand (s : State) (code : Byte) : (s.takeCommand code).tiles = s.tiles := rfl
@[simp] theorem State.query_takeCommand (s : State) (code : Byte) : (s.takeCommand code).query = s.query := rfl
@[simp] theorem State.cells_takeCommand (s : State) (code : Byte) : (s.takeCommand code).cells = s.cells := rfl
@[simp] theorem State.walker_takeCommand (s : State) (code : Byte) : (s.takeCommand code).walker = s.walker := rfl
@[simp] theorem State.links_takeCommand (s : State) (code : Byte) : (s.takeCommand code).links = s.links := rfl
@[simp] theorem State.present_takeCommand (s : State) (code : Byte) : (s.takeCommand code).present = s.present := rfl
@[simp] theorem State.attention_takeCommand (s : State) (code : Byte) : (s.takeCommand code).attention = s.attention := rfl
@[simp] theorem State.freeCount_takeCommand (s : State) (code : Byte) : (s.takeCommand code).freeCount = s.freeCount := rfl
@[simp] theorem State.pending_takeCommand (s : State) (code : Byte) : (s.takeCommand code).pending = s.pending := rfl

/-! ## finish -/

@[simp] theorem State.nReset_finish (s : State) (r : ResultCode) (ws : List Word) : (s.finish r ws).nReset = s.nReset := rfl
@[simp] theorem State.notReady_finish (s : State) (r : ResultCode) (ws : List Word) : (s.finish r ws).notReady = s.notReady := rfl
@[simp] theorem State.bus_finish (s : State) (r : ResultCode) (ws : List Word) : (s.finish r ws).bus = s.bus := rfl
@[simp] theorem State.timers_finish (s : State) (r : ResultCode) (ws : List Word) : (s.finish r ws).timers = s.timers := rfl
@[simp] theorem State.window_finish (s : State) (r : ResultCode) (ws : List Word) : (s.finish r ws).window = s.window := rfl
@[simp] theorem State.fill_finish (s : State) (r : ResultCode) (ws : List Word) : (s.finish r ws).fill = s.fill := rfl
@[simp] theorem State.store_finish (s : State) (r : ResultCode) (ws : List Word) : (s.finish r ws).store = s.store := rfl
@[simp] theorem State.arbiter_finish (s : State) (r : ResultCode) (ws : List Word) : (s.finish r ws).arbiter = s.arbiter := rfl
@[simp] theorem State.map_finish (s : State) (r : ResultCode) (ws : List Word) : (s.finish r ws).map = s.map := rfl
@[simp] theorem State.tiles_finish (s : State) (r : ResultCode) (ws : List Word) : (s.finish r ws).tiles = s.tiles := rfl
@[simp] theorem State.query_finish (s : State) (r : ResultCode) (ws : List Word) : (s.finish r ws).query = s.query := rfl
@[simp] theorem State.cells_finish (s : State) (r : ResultCode) (ws : List Word) : (s.finish r ws).cells = s.cells := rfl
@[simp] theorem State.walker_finish (s : State) (r : ResultCode) (ws : List Word) : (s.finish r ws).walker = s.walker := rfl
@[simp] theorem State.links_finish (s : State) (r : ResultCode) (ws : List Word) : (s.finish r ws).links = s.links := rfl
@[simp] theorem State.present_finish (s : State) (r : ResultCode) (ws : List Word) : (s.finish r ws).present = s.present := rfl
@[simp] theorem State.attention_finish (s : State) (r : ResultCode) (ws : List Word) : (s.finish r ws).attention = s.attention := rfl
@[simp] theorem State.freeCount_finish (s : State) (r : ResultCode) (ws : List Word) : (s.finish r ws).freeCount = s.freeCount := rfl
@[simp] theorem State.pending_finish (s : State) (r : ResultCode) (ws : List Word) : (s.finish r ws).pending = s.pending := rfl

/-! ## complete -/

@[simp] theorem State.nReset_complete (s : State) (ws : List Word) : (s.complete ws).nReset = s.nReset := rfl
@[simp] theorem State.notReady_complete (s : State) (ws : List Word) : (s.complete ws).notReady = s.notReady := rfl
@[simp] theorem State.bus_complete (s : State) (ws : List Word) : (s.complete ws).bus = s.bus := rfl
@[simp] theorem State.timers_complete (s : State) (ws : List Word) : (s.complete ws).timers = s.timers := rfl
@[simp] theorem State.window_complete (s : State) (ws : List Word) : (s.complete ws).window = s.window := rfl
@[simp] theorem State.fill_complete (s : State) (ws : List Word) : (s.complete ws).fill = s.fill := rfl
@[simp] theorem State.store_complete (s : State) (ws : List Word) : (s.complete ws).store = s.store := rfl
@[simp] theorem State.arbiter_complete (s : State) (ws : List Word) : (s.complete ws).arbiter = s.arbiter := rfl
@[simp] theorem State.map_complete (s : State) (ws : List Word) : (s.complete ws).map = s.map := rfl
@[simp] theorem State.tiles_complete (s : State) (ws : List Word) : (s.complete ws).tiles = s.tiles := rfl
@[simp] theorem State.query_complete (s : State) (ws : List Word) : (s.complete ws).query = s.query := rfl
@[simp] theorem State.cells_complete (s : State) (ws : List Word) : (s.complete ws).cells = s.cells := rfl
@[simp] theorem State.walker_complete (s : State) (ws : List Word) : (s.complete ws).walker = s.walker := rfl
@[simp] theorem State.links_complete (s : State) (ws : List Word) : (s.complete ws).links = s.links := rfl
@[simp] theorem State.present_complete (s : State) (ws : List Word) : (s.complete ws).present = s.present := rfl
@[simp] theorem State.attention_complete (s : State) (ws : List Word) : (s.complete ws).attention = s.attention := rfl
@[simp] theorem State.freeCount_complete (s : State) (ws : List Word) : (s.complete ws).freeCount = s.freeCount := rfl
@[simp] theorem State.pending_complete (s : State) (ws : List Word) : (s.complete ws).pending = s.pending := rfl

/-! ## refuse -/

@[simp] theorem State.nReset_refuse (s : State) (r : ResultCode) : (s.refuse r).nReset = s.nReset := rfl
@[simp] theorem State.notReady_refuse (s : State) (r : ResultCode) : (s.refuse r).notReady = s.notReady := rfl
@[simp] theorem State.bus_refuse (s : State) (r : ResultCode) : (s.refuse r).bus = s.bus := rfl
@[simp] theorem State.timers_refuse (s : State) (r : ResultCode) : (s.refuse r).timers = s.timers := rfl
@[simp] theorem State.window_refuse (s : State) (r : ResultCode) : (s.refuse r).window = s.window := rfl
@[simp] theorem State.fill_refuse (s : State) (r : ResultCode) : (s.refuse r).fill = s.fill := rfl
@[simp] theorem State.store_refuse (s : State) (r : ResultCode) : (s.refuse r).store = s.store := rfl
@[simp] theorem State.arbiter_refuse (s : State) (r : ResultCode) : (s.refuse r).arbiter = s.arbiter := rfl
@[simp] theorem State.map_refuse (s : State) (r : ResultCode) : (s.refuse r).map = s.map := rfl
@[simp] theorem State.tiles_refuse (s : State) (r : ResultCode) : (s.refuse r).tiles = s.tiles := rfl
@[simp] theorem State.query_refuse (s : State) (r : ResultCode) : (s.refuse r).query = s.query := rfl
@[simp] theorem State.cells_refuse (s : State) (r : ResultCode) : (s.refuse r).cells = s.cells := rfl
@[simp] theorem State.walker_refuse (s : State) (r : ResultCode) : (s.refuse r).walker = s.walker := rfl
@[simp] theorem State.links_refuse (s : State) (r : ResultCode) : (s.refuse r).links = s.links := rfl
@[simp] theorem State.present_refuse (s : State) (r : ResultCode) : (s.refuse r).present = s.present := rfl
@[simp] theorem State.attention_refuse (s : State) (r : ResultCode) : (s.refuse r).attention = s.attention := rfl
@[simp] theorem State.freeCount_refuse (s : State) (r : ResultCode) : (s.refuse r).freeCount = s.freeCount := rfl
@[simp] theorem State.pending_refuse (s : State) (r : ResultCode) : (s.refuse r).pending = s.pending := rfl

/-! ## startWindowOp -/

@[simp] theorem State.nReset_startWindowOp (s : State) (op : WindowOp) : (s.startWindowOp op).nReset = s.nReset := rfl
@[simp] theorem State.notReady_startWindowOp (s : State) (op : WindowOp) : (s.startWindowOp op).notReady = s.notReady := rfl
@[simp] theorem State.bus_startWindowOp (s : State) (op : WindowOp) : (s.startWindowOp op).bus = s.bus := rfl
@[simp] theorem State.cu_startWindowOp (s : State) (op : WindowOp) : (s.startWindowOp op).cu = s.cu := rfl
@[simp] theorem State.timers_startWindowOp (s : State) (op : WindowOp) : (s.startWindowOp op).timers = s.timers := rfl
@[simp] theorem State.fill_startWindowOp (s : State) (op : WindowOp) : (s.startWindowOp op).fill = s.fill := rfl
@[simp] theorem State.store_startWindowOp (s : State) (op : WindowOp) : (s.startWindowOp op).store = s.store := rfl
@[simp] theorem State.map_startWindowOp (s : State) (op : WindowOp) : (s.startWindowOp op).map = s.map := rfl
@[simp] theorem State.tiles_startWindowOp (s : State) (op : WindowOp) : (s.startWindowOp op).tiles = s.tiles := rfl
@[simp] theorem State.query_startWindowOp (s : State) (op : WindowOp) : (s.startWindowOp op).query = s.query := rfl
@[simp] theorem State.cells_startWindowOp (s : State) (op : WindowOp) : (s.startWindowOp op).cells = s.cells := rfl
@[simp] theorem State.walker_startWindowOp (s : State) (op : WindowOp) : (s.startWindowOp op).walker = s.walker := rfl
@[simp] theorem State.links_startWindowOp (s : State) (op : WindowOp) : (s.startWindowOp op).links = s.links := rfl
@[simp] theorem State.present_startWindowOp (s : State) (op : WindowOp) : (s.startWindowOp op).present = s.present := rfl
@[simp] theorem State.attention_startWindowOp (s : State) (op : WindowOp) : (s.startWindowOp op).attention = s.attention := rfl
@[simp] theorem State.freeCount_startWindowOp (s : State) (op : WindowOp) : (s.startWindowOp op).freeCount = s.freeCount := rfl
@[simp] theorem State.pending_startWindowOp (s : State) (op : WindowOp) : (s.startWindowOp op).pending = s.pending := rfl

/-! ## The host's access -/

@[simp] theorem State.nReset_hostAccess (s : State) : s.hostAccess.nReset = s.nReset := by
  unfold State.hostAccess; split <;> rfl
@[simp] theorem State.notReady_hostAccess (s : State) : s.hostAccess.notReady = s.notReady := by
  unfold State.hostAccess; split <;> rfl
@[simp] theorem State.cu_hostAccess (s : State) : s.hostAccess.cu = s.cu := by
  unfold State.hostAccess; split <;> rfl
@[simp] theorem State.timers_hostAccess (s : State) : s.hostAccess.timers = s.timers := by
  unfold State.hostAccess; split <;> rfl
@[simp] theorem State.window_hostAccess (s : State) : s.hostAccess.window = s.window := by
  unfold State.hostAccess; split <;> rfl
@[simp] theorem State.fill_hostAccess (s : State) : s.hostAccess.fill = s.fill := by
  unfold State.hostAccess; split <;> rfl
@[simp] theorem State.store_hostAccess (s : State) : s.hostAccess.store = s.store := by
  unfold State.hostAccess; split <;> rfl
@[simp] theorem State.arbiter_hostAccess (s : State) : s.hostAccess.arbiter = s.arbiter := by
  unfold State.hostAccess; split <;> rfl
@[simp] theorem State.map_hostAccess (s : State) : s.hostAccess.map = s.map := by
  unfold State.hostAccess; split <;> rfl
@[simp] theorem State.tiles_hostAccess (s : State) : s.hostAccess.tiles = s.tiles := by
  unfold State.hostAccess; split <;> rfl
@[simp] theorem State.query_hostAccess (s : State) : s.hostAccess.query = s.query := by
  unfold State.hostAccess; split <;> rfl
@[simp] theorem State.cells_hostAccess (s : State) : s.hostAccess.cells = s.cells := by
  unfold State.hostAccess; split <;> rfl
@[simp] theorem State.walker_hostAccess (s : State) : s.hostAccess.walker = s.walker := by
  unfold State.hostAccess; split <;> rfl
@[simp] theorem State.links_hostAccess (s : State) : s.hostAccess.links = s.links := by
  unfold State.hostAccess; split <;> rfl
@[simp] theorem State.present_hostAccess (s : State) : s.hostAccess.present = s.present := by
  unfold State.hostAccess; split <;> rfl
@[simp] theorem State.attention_hostAccess (s : State) : s.hostAccess.attention = s.attention := by
  unfold State.hostAccess; split <;> rfl
@[simp] theorem State.pending_hostAccess (s : State) : s.hostAccess.pending = s.pending := by
  unfold State.hostAccess; split <;> rfl

theorem State.hostAccess_of_no_cycle (s : State) (h : s.bus.cycle = .none) : s.hostAccess = s := by
  simp [State.hostAccess, h]

@[simp] theorem State.cycle_hostAccess (s : State) : s.hostAccess.bus.cycle = .none := by
  unfold State.hostAccess
  split
  · assumption
  · rfl
  · rfl

/-! ## One link, tile or cell through the updates of other blocks -/

@[simp] theorem State.tile_setLink (s : State) (k : Link) (l : LinkSlice) (u : TileIdx) : (s.setLink k l).tile u = s.tile u := rfl
@[simp] theorem State.cell_setLink (s : State) (k : Link) (l : LinkSlice) (u : TileIdx) (v : WallBand) : (s.setLink k l).cell u v = s.cell u v := rfl
@[simp] theorem State.tile_updateLink (s : State) (k : Link) (f : LinkSlice → LinkSlice) (u : TileIdx) : (s.updateLink k f).tile u = s.tile u := rfl
@[simp] theorem State.cell_updateLink (s : State) (k : Link) (f : LinkSlice → LinkSlice) (u : TileIdx) (v : WallBand) : (s.updateLink k f).cell u v = s.cell u v := rfl
@[simp] theorem State.link_setTile (s : State) (t : TileIdx) (r : TileRecord) (j : Link) : (s.setTile t r).link j = s.link j := rfl
@[simp] theorem State.cell_setTile (s : State) (t : TileIdx) (r : TileRecord) (u : TileIdx) (v : WallBand) : (s.setTile t r).cell u v = s.cell u v := rfl
@[simp] theorem State.link_setCell (s : State) (t : TileIdx) (w : WallBand) (x : CellRecord) (j : Link) : (s.setCell t w x).link j = s.link j := rfl
@[simp] theorem State.tile_setCell (s : State) (t : TileIdx) (w : WallBand) (x : CellRecord) (u : TileIdx) : (s.setCell t w x).tile u = s.tile u := rfl
@[simp] theorem State.link_mapCells (s : State) (f : TileIdx → WallBand → CellRecord → CellRecord) (j : Link) : (s.mapCells f).link j = s.link j := rfl
@[simp] theorem State.tile_mapCells (s : State) (f : TileIdx → WallBand → CellRecord → CellRecord) (u : TileIdx) : (s.mapCells f).tile u = s.tile u := rfl
@[simp] theorem State.link_deliver (s : State) (w : Word) (j : Link) : (s.deliver w).link j = s.link j := rfl
@[simp] theorem State.tile_deliver (s : State) (w : Word) (u : TileIdx) : (s.deliver w).tile u = s.tile u := rfl
@[simp] theorem State.cell_deliver (s : State) (w : Word) (u : TileIdx) (v : WallBand) : (s.deliver w).cell u v = s.cell u v := rfl
@[simp] theorem State.link_request (s : State) (r : Requester) (j : Link) : (s.request r).link j = s.link j := rfl
@[simp] theorem State.tile_request (s : State) (r : Requester) (u : TileIdx) : (s.request r).tile u = s.tile u := rfl
@[simp] theorem State.cell_request (s : State) (r : Requester) (u : TileIdx) (v : WallBand) : (s.request r).cell u v = s.cell u v := rfl
@[simp] theorem State.link_releaseGrant (s : State) (j : Link) : (s.releaseGrant).link j = s.link j := rfl
@[simp] theorem State.tile_releaseGrant (s : State) (u : TileIdx) : (s.releaseGrant).tile u = s.tile u := rfl
@[simp] theorem State.cell_releaseGrant (s : State) (u : TileIdx) (v : WallBand) : (s.releaseGrant).cell u v = s.cell u v := rfl
@[simp] theorem State.link_attend (s : State) (e : AttentionEvent) (j : Link) : (s.attend e).link j = s.link j := rfl
@[simp] theorem State.tile_attend (s : State) (e : AttentionEvent) (u : TileIdx) : (s.attend e).tile u = s.tile u := rfl
@[simp] theorem State.cell_attend (s : State) (e : AttentionEvent) (u : TileIdx) (v : WallBand) : (s.attend e).cell u v = s.cell u v := rfl
@[simp] theorem State.link_collide (s : State) (j : Link) : (s.collide).link j = s.link j := rfl
@[simp] theorem State.tile_collide (s : State) (u : TileIdx) : (s.collide).tile u = s.tile u := rfl
@[simp] theorem State.cell_collide (s : State) (u : TileIdx) (v : WallBand) : (s.collide).cell u v = s.cell u v := rfl
@[simp] theorem State.link_takeCommand (s : State) (code : Byte) (j : Link) : (s.takeCommand code).link j = s.link j := rfl
@[simp] theorem State.tile_takeCommand (s : State) (code : Byte) (u : TileIdx) : (s.takeCommand code).tile u = s.tile u := rfl
@[simp] theorem State.cell_takeCommand (s : State) (code : Byte) (u : TileIdx) (v : WallBand) : (s.takeCommand code).cell u v = s.cell u v := rfl
@[simp] theorem State.link_finish (s : State) (r : ResultCode) (ws : List Word) (j : Link) : (s.finish r ws).link j = s.link j := rfl
@[simp] theorem State.tile_finish (s : State) (r : ResultCode) (ws : List Word) (u : TileIdx) : (s.finish r ws).tile u = s.tile u := rfl
@[simp] theorem State.cell_finish (s : State) (r : ResultCode) (ws : List Word) (u : TileIdx) (v : WallBand) : (s.finish r ws).cell u v = s.cell u v := rfl
@[simp] theorem State.link_complete (s : State) (ws : List Word) (j : Link) : (s.complete ws).link j = s.link j := rfl
@[simp] theorem State.tile_complete (s : State) (ws : List Word) (u : TileIdx) : (s.complete ws).tile u = s.tile u := rfl
@[simp] theorem State.cell_complete (s : State) (ws : List Word) (u : TileIdx) (v : WallBand) : (s.complete ws).cell u v = s.cell u v := rfl
@[simp] theorem State.link_refuse (s : State) (r : ResultCode) (j : Link) : (s.refuse r).link j = s.link j := rfl
@[simp] theorem State.tile_refuse (s : State) (r : ResultCode) (u : TileIdx) : (s.refuse r).tile u = s.tile u := rfl
@[simp] theorem State.cell_refuse (s : State) (r : ResultCode) (u : TileIdx) (v : WallBand) : (s.refuse r).cell u v = s.cell u v := rfl
@[simp] theorem State.link_startWindowOp (s : State) (op : WindowOp) (j : Link) : (s.startWindowOp op).link j = s.link j := rfl
@[simp] theorem State.tile_startWindowOp (s : State) (op : WindowOp) (u : TileIdx) : (s.startWindowOp op).tile u = s.tile u := rfl
@[simp] theorem State.cell_startWindowOp (s : State) (op : WindowOp) (u : TileIdx) (v : WallBand) : (s.startWindowOp op).cell u v = s.cell u v := rfl
@[simp] theorem State.link_hostAccess (s : State) (j : Link) : s.hostAccess.link j = s.link j := by simp [State.link]
@[simp] theorem State.tile_hostAccess (s : State) (u : TileIdx) : s.hostAccess.tile u = s.tile u := by simp [State.tile]
@[simp] theorem State.cell_hostAccess (s : State) (u : TileIdx) (v : WallBand) : s.hostAccess.cell u v = s.cell u v := by
  simp [State.cell]

end Sys2Proof.Machine
end

