-- ==== Sys2Proof/Laws/Arbiter.lean ====
section
/-! SUPPORT. What a request, the end of a grant and the writing of an attention record can do (R19, R20, R170). -/

namespace Sys2Proof.Machine

/-- Everything a request can do: the grant at an idle store that nobody waits for, or a wait. -/
theorem Arbiter.request_cases (a : Arbiter) (r : Requester) :
    (a.holder = none ∧ a.windowWaiting = false ∧ a.nextCapture = none ∧ a.request r = a.grant r) ∨
    (¬(a.holder = none ∧ a.windowWaiting = false ∧ a.nextCapture = none) ∧ a.request r = a.await r) := by
  by_cases h : a.holder = none ∧ a.windowWaiting = false ∧ a.nextCapture = none
  · exact .inl ⟨h.1, h.2.1, h.2.2, by simp [Arbiter.request, h]⟩
  · refine .inr ⟨h, ?_⟩
    simp only [Arbiter.request]
    split
    · next g => exact absurd (by simpa [and_assoc] using g) h
    · rfl

/-- No capture engine is next exactly when none waits. -/
theorem Arbiter.nextCapture_eq_none (a : Arbiter) :
    a.nextCapture = none ↔ ∀ k : Link, a.captureWaiting[k] = false := by
  obtain ⟨_, _, w, l⟩ := a
  simp only [Arbiter.nextCapture, List.find?_eq_none, List.mem_cons, List.not_mem_nil, or_false, forall_eq_or_imp,
    forall_eq, Bool.not_eq_true]
  constructor
  · rintro ⟨h1, h2, h3, h4⟩ k
    have all : ∀ k l : Fin 4, k = l + 1 ∨ k = l + 2 ∨ k = l + 3 ∨ k = l := by decide
    rcases all k l with rfl | rfl | rfl | rfl <;> assumption
  · intro h
    exact ⟨h _, h _, h _, h _⟩

/-- A capture engine that is next waits. -/
theorem Arbiter.waiting_of_nextCapture (a : Arbiter) (k : Link) (h : a.nextCapture = some k) :
    a.captureWaiting[k] = true := by
  simpa using List.find?_some h

/-- Everything the end of a grant can do: the window's grant, the next capture engine's, or an idle store. -/
theorem Arbiter.release_cases (a : Arbiter) :
    (a.windowWaiting = true ∧ a.release = a.grant .window) ∨
    (∃ k, a.nextCapture = some k ∧ a.release = a.grant (.capture k)) ∨
    (a.windowWaiting = false ∧ a.nextCapture = none ∧ a.release = { a with holder := none }) := by
  cases hn : a.nextCapture with
  | none =>
    cases hw : a.windowWaiting with
    | false => exact .inr (.inr ⟨rfl, rfl, by simp [Arbiter.release, hn, hw]⟩)
    | true => exact .inl ⟨rfl, by simp [Arbiter.release, hn, hw]⟩
  | some k =>
    by_cases hc : (∃ j, a.holder = some (.capture j)) ∧ a.windowWaiting = true
    · obtain ⟨⟨j, hj⟩, hw⟩ := hc
      exact .inl ⟨hw, by simp [Arbiter.release, hj, hw]⟩
    · refine .inr (.inl ⟨k, rfl, ?_⟩)
      cases hh : a.holder with
      | none => simp [Arbiter.release, hn, hh]
      | some r =>
        cases r with
        | window => simp [Arbiter.release, hn, hh]
        | capture j =>
          have hw : a.windowWaiting = false := by
            by_contra g
            exact hc ⟨⟨j, hh⟩, by simpa using g⟩
          simp [Arbiter.release, hn, hh, hw]

/-- Everything the writing of a record can do: it joins with its gap mark, or it is discarded and the gap flag is set. -/
theorem Attention.append_cases (a : Attention) (e : AttentionEvent) :
    (a.records.length < Config.attentionDepth ∧
      a.append e = { a with records := a.records ++ [⟨e, a.gapFlag⟩], gapFlag := false }) ∨
    (Config.attentionDepth ≤ a.records.length ∧ a.append e = { a with gapFlag := true }) := by
  by_cases h : a.records.length < Config.attentionDepth
  · exact .inl ⟨h, by simp [Attention.append, h]⟩
  · exact .inr ⟨Nat.le_of_not_lt h, by simp [Attention.append, h]⟩

/-- A record written removes none. -/
theorem Attention.records_prefix_append (a : Attention) (e : AttentionEvent) :
    a.records <+: (a.append e).records := by
  rcases a.append_cases e with ⟨-, h⟩ | ⟨-, h⟩ <;> simp [h]

/-- A record written leaves the queue within its depth. -/
theorem Attention.length_append_le (a : Attention) (e : AttentionEvent) (h : a.records.length ≤ 16) :
    (a.append e).records.length ≤ 16 := by
  rcases a.append_cases e with ⟨g, h'⟩ | ⟨-, h'⟩
  · have : a.records.length < 16 := g
    simp only [h', List.length_append, List.length_cons, List.length_nil]; omega
  · simpa [h'] using h

end Sys2Proof.Machine
end

