-- ==== Sys2Proof/Laws/Cells.lean ====
section
/-! SUPPORT. The record of one cell after each cell event, said once for each event (R58 to R65, R153, R154). -/

namespace Sys2Proof.Machine

/-- W for the cells a written notification reaches (R58, R66). -/
@[simp] theorem State.cell_notify (s : State) (b : StoreBand) (first count : Nat) (t : TileIdx) (w : WallBand) :
    (s.notify b first count).cell t w =
      if s.writeReaches b first count t w then (s.cell t w).change else s.cell t w := s.cell_mapCells _ t w

/-- M for the cells of a swept wall band (R59, R34). -/
@[simp] theorem State.cell_sweepBand (s : State) (v : WallBand) (t : TileIdx) (w : WallBand) :
    (s.sweepBand v).cell t w =
      if w == v && (s.tile t).isActive && (s.tile t).hasBand v then (s.cell t w).change else s.cell t w :=
  s.cell_mapCells _ t w

/-- F for the cells of departing tiles (R41, R63). -/
@[simp] theorem State.cell_failTiles (s : State) (ts : List TileIdx) (t : TileIdx) (w : WallBand) :
    (s.failTiles ts).cell t w = if ts.contains t && (s.tile t).hasBand w then ⟨.stale, false⟩ else s.cell t w :=
  s.cell_mapCells _ t w

/-- F for the cells of removed CELL entries (R63). -/
@[simp] theorem State.cell_failEntries (s : State) (es : List Entry) (t : TileIdx) (w : WallBand) :
    (s.failEntries es).cell t w = if es.contains (.cell t w) then ⟨.stale, false⟩ else s.cell t w :=
  s.cell_mapCells _ t w

/-- The clearing of every mark (R65). -/
@[simp] theorem State.cell_clearMarks (s : State) (t : TileIdx) (w : WallBand) :
    s.clearMarks.cell t w = { s.cell t w with marked := false } := s.cell_mapCells (fun _ _ c => { c with marked := false }) t w

/-- The marks of a cut (R153). -/
@[simp] theorem State.cell_setMarks (s : State) (p : TileSet) (t : TileIdx) (w : WallBand) :
    (s.setMarks p).cell t w = if s.marksAtCut p t w then { s.cell t w with marked := true } else s.cell t w :=
  s.cell_mapCells (fun t w c => if s.marksAtCut p t w then { c with marked := true } else c) t w

/-- Q reaches one cell (R60). -/
theorem State.cell_queueCell (s : State) (t u : TileIdx) (w v : WallBand) :
    (s.queueCell t w).cell u v =
      if u = t ∧ v = w then { s.cell t w with state := (s.cell t w).state.onQueue } else s.cell u v := s.cell_setCell t u w v _

/-- C reaches one cell (R61). -/
theorem State.cell_captureCell (s : State) (t u : TileIdx) (w v : WallBand) :
    (s.captureCell t w).cell u v =
      if u = t ∧ v = w then { s.cell t w with state := (s.cell t w).state.onCapture } else s.cell u v :=
  s.cell_setCell t u w v _

/-- A reaches one cell, and takes the mark of one that becomes CLEAN (R62). -/
theorem State.cell_ackCell (s : State) (t u : TileIdx) (w v : WallBand) :
    (s.ackCell t w).cell u v =
      if u = t ∧ v = w then ⟨(s.cell t w).state.onAck, (s.cell t w).marked && (s.cell t w).state != .inflight⟩
      else s.cell u v := s.cell_setCell t u w v _

end Sys2Proof.Machine
end

