-- ==== Sys2Proof/Laws/CommandUnit.lean ====
section
/-! SUPPORT. What an event, a host access and a command write can do, said once (R176, R179, R180, R181). -/

namespace Sys2Proof.Machine

open Sys2Proof.Safety

/-- An event of the running part is its effect. -/
@[simp] theorem State.event_running (s : State) (f : State → State) (h : s.nReset = true) : s.event f = .next (f s) := by
  simp [State.event, h]

/-- An event while nRESET is low leaves the state. -/
@[simp] theorem State.event_in_reset (s : State) (f : State → State) (h : s.nReset = false) : s.event f = .next s := by
  simp [State.event, h]

/-- An access of the running part is its effect after the host's cycle has been settled. -/
@[simp] theorem State.access_running (s : State) (f : State → State) (h : s.nReset = true) :
    s.access f = .next (f s.hostAccess) := s.event_running _ h

/-- An access while nRESET is low leaves the state. -/
@[simp] theorem State.access_in_reset (s : State) (f : State → State) (h : s.nReset = false) : s.access f = .next s :=
  s.event_in_reset _ h

/-- A taken command that ends leaves the unit as `ended` says. -/
theorem State.finish_takeCommand (s : State) (code : Byte) (r : ResultCode) (ws : List Word) :
    (s.takeCommand code).finish r ws = { s with cu := ended s code r ws } := rfl

/-- Everything a command write of a listed code can do: a collision, a refusal by a check before the command's own rule, or the
command's own rule on the taken state. -/
theorem State.command_cases (s : State) (code : Byte) (n : Nat) (body : List Word → State → State) :
    (s.cu.busy = true ∧ s.command code n body = s.collide) ∨
    (s.cu.busy = false ∧ ∃ r, (r = .long ∧ (s.cu.overflow = true ∨ n < s.cu.params.length) ∨
        r = .short ∧ s.cu.overflow = false ∧ s.cu.params.length < n ∨
        r = .notReady ∧ s.cu.overflow = false ∧ s.cu.params.length = n ∧ s.notReady = true) ∧
      s.command code n body = { s with cu := ended s code r [] }) ∨
    (s.cu.busy = false ∧ s.cu.overflow = false ∧ s.cu.params.length = n ∧ s.notReady = false ∧
      s.command code n body = body s.cu.params (s.takeCommand code)) := by
  unfold State.command
  by_cases hb : s.cu.busy = true
  · simp [hb]
  · simp only [Bool.not_eq_true] at hb
    by_cases ho : s.cu.overflow = true
    · exact .inr (.inl ⟨hb, .long, by simp [ho], by simp [hb, ho, State.refuse, State.finish_takeCommand]⟩)
    · simp only [Bool.not_eq_true] at ho
      rcases Nat.lt_trichotomy s.cu.params.length n with h | h | h
      · exact .inr (.inl ⟨hb, .short, by simp [ho, h], by simp [hb, ho, h, State.refuse, State.finish_takeCommand]⟩)
      · by_cases hr : s.notReady = true
        · exact .inr (.inl ⟨hb, .notReady, by simp [ho, h, hr], by simp [hb, ho, h, hr, State.refuse, State.finish_takeCommand]⟩)
        · simp only [Bool.not_eq_true] at hr
          exact .inr (.inr ⟨hb, ho, h, hr, by simp [hb, ho, h, hr]⟩)
      · exact .inr (.inl ⟨hb, .long, by simp [h], by simp [hb, ho, h, Nat.lt_asymm h, State.refuse, State.finish_takeCommand]⟩)

/-- A command write that passes the first four checks runs the command's own rule. -/
theorem State.commandWrite_accepted (s : State) (code : Byte) (n : Nat) (body : List Word → State → State)
    (ps : List Word) (h : Accepted s ps) (hn : ps.length = n) :
    s.commandWrite code n body = .next (body ps (s.hostAccess.takeCommand code)) := by
  obtain ⟨h1, h2, h3, h4, rfl⟩ := h
  simp [State.commandWrite, h1, State.command, h2, h3, h4, hn]

/-- A command that ends on a state whose unit is as the taking left it ends as `ended` says. -/
theorem State.finish_of_taken (s t : State) (code : Byte) (r : ResultCode) (ws : List Word)
    (h : t.cu = (s.takeCommand code).cu) : t.finish r ws = { t with cu := ended s code r ws } := by
  simp only [State.finish, h]; rfl

end Sys2Proof.Machine
end

