-- ==== Sys2Proof/Laws/Presents.lean ====
section
/-! SUPPORT. What the endings of presents and queries, the leaving of ACTIVE and the reports of a release can change, said once
each: every field of State that a lemma does not name is as it was (R41, R50 to R52, R62, R154 to R160). -/

namespace Sys2Proof.Machine

/-! ## One ending -/

/-- A present that ends changes cells (their marks), the present and the attention queue. -/
theorem State.endPresent_frame (s : State) (o : PresentOutcome) (t : Option TileIdx) :
    ∃ x p a, s.endPresent o t = { s with cells := x, present := p, attention := a } := by
  by_cases h : s.present.state = .collecting
  · simp only [State.endPresent, h, if_true]
    exact ⟨_, _, _, rfl⟩
  · simp only [State.endPresent, h, if_false]
    exact ⟨s.cells, _, _, rfl⟩

/-- What a present that ends leaves of the present record (R158). -/
theorem State.present_endPresent (s : State) (o : PresentOutcome) (t : Option TileIdx) :
    (s.endPresent o t).present = { s.present with state := .idle, deadline := none, remaining := 0, outcome := o } := rfl

/-- What a present that ends leaves of a cell: its mark goes when the present was COLLECTING (R65, R158). -/
theorem State.cell_endPresent (s : State) (o : PresentOutcome) (t : Option TileIdx) (u : TileIdx) (w : WallBand) :
    (s.endPresent o t).cell u w =
      if s.present.state = .collecting then { s.cell u w with marked := false } else s.cell u w := by
  by_cases h : s.present.state = .collecting
  · simp only [State.endPresent, h, if_true, State.cell_attend]
    exact s.cell_mapCells (fun _ _ c => { c with marked := false }) u w
  · simp only [State.endPresent, h, if_false, State.cell_attend]
    rfl

/-- A query that ends changes the query and the attention queue. -/
theorem State.endQuery_frame (s : State) (o : QueryOutcome) :
    ∃ q a, s.endQuery o = { s with query := q, attention := a } := ⟨_, _, rfl⟩

/-- A tile's leaving changes cells, the present and the attention queue, as far as the Present Unit goes. -/
theorem State.presentTileLeft_frame (s : State) (t : TileIdx) :
    ∃ x p a, s.presentTileLeft t = { s with cells := x, present := p, attention := a } := by
  unfold State.presentTileLeft
  split
  · exact ⟨s.cells, s.present, s.attention, rfl⟩
  · split
    · exact s.endPresent_frame _ _
    · exact ⟨s.cells, s.present, s.attention, rfl⟩
  · split
    · exact s.endPresent_frame _ _
    · exact ⟨s.cells, s.present, s.attention, rfl⟩

/-- A removed entry changes cells, the present and the attention queue, as far as the Present Unit goes. -/
theorem State.presentEntryRemoved_frame (s : State) (e : Entry) :
    ∃ x p a, s.presentEntryRemoved e = { s with cells := x, present := p, attention := a } := by
  unfold State.presentEntryRemoved
  split
  · split
    · exact s.presentTileLeft_frame _
    · exact ⟨s.cells, s.present, s.attention, rfl⟩
  · exact ⟨s.cells, s.present, s.attention, rfl⟩
  · exact ⟨s.cells, s.present, s.attention, rfl⟩

/-- A tile's leaving changes the query and the attention queue, as far as the Query Unit goes. -/
theorem State.queryTileLeft_frame (s : State) (t : TileIdx) :
    ∃ q a, s.queryTileLeft t = { s with query := q, attention := a } := by
  unfold State.queryTileLeft
  split
  · exact s.endQuery_frame _
  · exact ⟨s.query, s.attention, rfl⟩

/-- A removed entry changes the query and the attention queue, as far as the Query Unit goes. -/
theorem State.queryEntryRemoved_frame (s : State) (e : Entry) :
    ∃ q a, s.queryEntryRemoved e = { s with query := q, attention := a } := by
  unfold State.queryEntryRemoved
  split
  · split
    · exact s.endQuery_frame _
    · exact ⟨s.query, s.attention, rfl⟩
  · exact ⟨s.query, s.attention, rfl⟩
  · exact ⟨s.query, s.attention, rfl⟩

/-! ## Lists of departures -/

/-- A fold whose every step changes only cells, the present and the attention queue does only that. -/
theorem State.foldl_present_frame {α : Type} (f : State → α → State)
    (h : ∀ s a, ∃ x p b, f s a = { s with cells := x, present := p, attention := b }) (l : List α) (s : State) :
    ∃ x p b, l.foldl f s = { s with cells := x, present := p, attention := b } := by
  induction l generalizing s with
  | nil => exact ⟨s.cells, s.present, s.attention, rfl⟩
  | cons a l ih =>
    obtain ⟨x, p, b, e⟩ := h s a
    obtain ⟨x', p', b', e'⟩ := ih (f s a)
    exact ⟨x', p', b', by rw [List.foldl_cons, e', e]⟩

/-- A fold whose every step changes only the query and the attention queue does only that. -/
theorem State.foldl_query_frame {α : Type} (f : State → α → State)
    (h : ∀ s a, ∃ q b, f s a = { s with query := q, attention := b }) (l : List α) (s : State) :
    ∃ q b, l.foldl f s = { s with query := q, attention := b } := by
  induction l generalizing s with
  | nil => exact ⟨s.query, s.attention, rfl⟩
  | cons a l ih =>
    obtain ⟨q, b, e⟩ := h s a
    obtain ⟨q', b', e'⟩ := ih (f s a)
    exact ⟨q', b', by rw [List.foldl_cons, e', e]⟩

/-- Departures change cells, the present and the attention queue, as far as the Present Unit goes. -/
theorem State.presentDepartures_frame (s : State) (ts : List TileIdx) (es : List Entry) :
    ∃ x p a, s.presentDepartures ts es = { s with cells := x, present := p, attention := a } := by
  obtain ⟨x, p, a, e⟩ := State.foldl_present_frame State.presentEntryRemoved State.presentEntryRemoved_frame es s
  obtain ⟨x', p', a', e'⟩ := State.foldl_present_frame State.presentTileLeft State.presentTileLeft_frame ts
    (es.foldl State.presentEntryRemoved s)
  exact ⟨x', p', a', by rw [State.presentDepartures, e', e]⟩

/-- Departures change the query and the attention queue, as far as the Query Unit goes. -/
theorem State.queryDepartures_frame (s : State) (ts : List TileIdx) (es : List Entry) :
    ∃ q a, s.queryDepartures ts es = { s with query := q, attention := a } := by
  obtain ⟨q, a, e⟩ := State.foldl_query_frame State.queryEntryRemoved State.queryEntryRemoved_frame es s
  obtain ⟨q', a', e'⟩ := State.foldl_query_frame State.queryTileLeft State.queryTileLeft_frame ts
    (es.foldl State.queryEntryRemoved s)
  exact ⟨q', a', by rw [State.queryDepartures, e', e]⟩

/-- The departures at the Present Unit and then at the Query Unit. -/
theorem State.presentThenQuery_frame (s : State) (ts : List TileIdx) (es : List Entry) :
    ∃ x p q a, (s.presentDepartures ts es).queryDepartures ts es =
      { s with cells := x, present := p, query := q, attention := a } := by
  obtain ⟨x, p, a, e⟩ := s.presentDepartures_frame ts es
  obtain ⟨q, a', e'⟩ := (s.presentDepartures ts es).queryDepartures_frame ts es
  exact ⟨x, p, q, a', by rw [e', e]⟩

/-- The departures at the Query Unit and then at the Present Unit. -/
theorem State.queryThenPresent_frame (s : State) (ts : List TileIdx) (es : List Entry) :
    ∃ x p q a, (s.queryDepartures ts es).presentDepartures ts es =
      { s with cells := x, present := p, query := q, attention := a } := by
  obtain ⟨q, a, e⟩ := s.queryDepartures_frame ts es
  obtain ⟨x, p, a', e'⟩ := (s.queryDepartures ts es).presentDepartures_frame ts es
  exact ⟨x, p, q, a', by rw [e', e]⟩

/-- Leaving ACTIVE changes cells, the present, the query, the attention queue and the free-value counter, and nothing else. -/
theorem State.leaveActive_frame (s : State) (ts : List TileIdx) (es : List Entry) :
    ∃ x p q a n, s.leaveActive ts es =
      { s with cells := x, present := p, query := q, attention := a, freeCount := n } := by
  obtain ⟨x₀, h₀⟩ : ∃ x, (s.failEntries es).failTiles ts = { s with cells := x } := ⟨_, rfl⟩
  simp only [State.leaveActive, h₀]
  split
  · split
    · obtain ⟨x, p, q, a, e⟩ := State.queryThenPresent_frame { s with cells := x₀, freeCount := s.freeCount + 1 } ts es
      exact ⟨x, p, q, a, s.freeCount + 1, e⟩
    · obtain ⟨x, p, q, a, e⟩ := State.presentThenQuery_frame { s with cells := x₀, freeCount := s.freeCount + 1 } ts es
      exact ⟨x, p, q, a, s.freeCount + 1, e⟩
  · obtain ⟨x, p, q, a, e⟩ := State.presentThenQuery_frame { s with cells := x₀ } ts es
    exact ⟨x, p, q, a, s.freeCount, e⟩

/-! ## Reports of a release -/

/-- Appending the SHOW entries of a present changes links only. -/
theorem State.appendShows_frame (s : State) : ∃ l, s.appendShows = { s with links := l } := by
  have key : ∀ (ts : List TileIdx) (s₀ : State), ∃ l, ts.foldl
      (fun s' t => s'.updateLink (s'.tile t).link (·.appendShow (.showTile t s'.present.number))) s₀ =
        { s₀ with links := l } := by
    intro ts
    induction ts with
    | nil => exact fun s₀ => ⟨s₀.links, rfl⟩
    | cons t ts ih =>
      intro s₀
      obtain ⟨l, e⟩ := ih (s₀.updateLink (s₀.tile t).link (·.appendShow (.showTile t s₀.present.number)))
      exact ⟨l, by rw [List.foldl_cons, e]; rfl⟩
  exact key _ s

/-- A cleared-mark report changes the present and the links, the latter when it makes the present SHOWING. -/
theorem State.reportClearedMark_frame (s : State) :
    ∃ p l, s.reportClearedMark = { s with present := p, links := l } := by
  simp only [State.reportClearedMark]
  split
  · split
    · obtain ⟨l, e⟩ := State.appendShows_frame
        { s with present := { s.present with remaining := s.present.remaining - 1, state := .showing } }
      exact ⟨_, l, e⟩
    · exact ⟨_, s.links, rfl⟩
  · exact ⟨s.present, s.links, rfl⟩

/-- A SHOW report changes cells, the present and the attention queue. -/
theorem State.reportShow_frame (s : State) (t : TileIdx) (n : Byte) :
    ∃ x p a, s.reportShow t n = { s with cells := x, present := p, attention := a } := by
  simp only [State.reportShow]
  split
  · split
    · obtain ⟨x, p, a, e⟩ := State.endPresent_frame
        { s with present := { s.present with shown := TileSet.add s.present.shown t } } .done none
      exact ⟨x, p, a, e⟩
    · exact ⟨s.cells, _, s.attention, rfl⟩
  · exact ⟨s.cells, s.present, s.attention, rfl⟩

/-- The effect of one release changes cells, the present, links and the attention queue, and nothing else. -/
theorem State.releaseEffect_frame (s : State) (r : HoldRecord) :
    ∃ x p l a, s.releaseEffect r = { s with cells := x, present := p, links := l, attention := a } := by
  have cell : ∀ w, ∃ x p l a, State.releaseEffect.ackCellOf s r w =
      { s with cells := x, present := p, links := l, attention := a } := by
    intro w
    simp only [State.releaseEffect.ackCellOf]
    split
    · obtain ⟨p, l, e⟩ := (s.ackCell r.tile w).reportClearedMark_frame
      exact ⟨_, p, l, s.attention, e⟩
    · exact ⟨_, s.present, s.links, s.attention, rfl⟩
  simp only [State.releaseEffect]
  split
  · exact ⟨s.cells, s.present, s.links, s.attention, rfl⟩
  · split
    · exact cell _
    · exact cell _
    · obtain ⟨x, p, a, e⟩ := s.reportShow_frame r.tile _
      exact ⟨x, p, s.links, a, e⟩
    · exact ⟨s.cells, s.present, s.links, s.attention, rfl⟩

end Sys2Proof.Machine
end

