-- ==== Sys2Proof/Laws/Links.lean ====
section
/-! SUPPORT. What the shared operations of the link slices can do, said once each: the queue and its backlog, the capture engine's
work given up, the entry to UP and a loss (R80, R81, R93, R117, R125, R131). -/

namespace Sys2Proof.Machine

open Sys2Proof.Safety

/-! ## Queue and backlog -/

/-- A SHOW entry joins the end of queue and backlog taken together (R79, R80). -/
theorem LinkSlice.entries_appendShow (l : LinkSlice) (e : Entry) :
    (l.appendShow e).queue ++ (l.appendShow e).backlog = l.queue ++ l.backlog ++ [e] := by
  unfold LinkSlice.appendShow
  split
  · next h =>
    have hb : l.backlog = [] := by simp only [Bool.and_eq_true, List.isEmpty_iff] at h; exact h.2
    simp [LinkSlice.enqueue, hb]
  · simp

/-- Refilling changes no entry and no order (R80, R81). -/
theorem LinkSlice.entries_refill (l : LinkSlice) : l.refill.queue ++ l.refill.backlog = l.queue ++ l.backlog := by
  simp [LinkSlice.refill]

/-- After a refill the queue has no free place, or nothing waits (R80). -/
theorem LinkSlice.refill_full (l : LinkSlice) (h : l.queue.length ≤ 32) :
    l.refill.queue.length ≤ 32 ∧ (l.refill.backlog ≠ [] → l.refill.queue.length = 32) := by
  simp only [LinkSlice.refill, Config.queueDepth, List.length_append, List.length_take, ne_eq, List.drop_eq_nil_iff]
  omega

/-! ## Work given up -/

/-- Giving up everything of a capture engine: what it is left doing, its withdrawn request, and nothing else (R93, R125). -/
theorem State.stopEngine_eq (s : State) (k : Link) :
    ∃ w, (s.abandonDispatch k).giveUpReRead k =
        { s with
          links := s.links.set k { s.link k with engine := stoppedEngine (s.holds (.capture k)) (s.link k).engine }
          arbiter := { s.arbiter with captureWaiting := w } } ∧
      (w = s.arbiter.captureWaiting ∨ w = s.arbiter.captureWaiting.set k false) := by
  have same : ∀ e, (s.link k).engine = e → s.links.set k { s.link k with engine := e } = s.links := by
    rintro e rfl
    exact Vector.set_getElem_self _
  cases he : (s.link k).engine with
  | idle => exact ⟨_, by simp [State.abandonDispatch, State.giveUpReRead, he, stoppedEngine, same .idle he], .inl rfl⟩
  | abandonedDispatch =>
    exact ⟨_, by simp [State.abandonDispatch, State.giveUpReRead, he, stoppedEngine, same .abandonedDispatch he], .inl rfl⟩
  | givenUpReRead =>
    exact ⟨_, by simp [State.abandonDispatch, State.giveUpReRead, he, stoppedEngine, same .givenUpReRead he], .inl rfl⟩
  | dispatch t v b =>
    by_cases hh : s.holds (.capture k) = true
    · refine ⟨s.arbiter.captureWaiting, ?_, .inl rfl⟩
      simp [State.abandonDispatch, State.giveUpReRead, he, hh, stoppedEngine]
      rfl
    · refine ⟨s.arbiter.captureWaiting.set k false, ?_, .inr rfl⟩
      have idle : ∀ a, (({ s.updateLink k (fun l => { l with engine := .idle }) with arbiter := a } : State).link k).engine =
          .idle := fun a => by simp [State.link, State.updateLink, State.setLink]
      simp only [State.abandonDispatch, he, hh, Bool.false_eq_true, if_false, State.giveUpReRead, idle, stoppedEngine]
      rfl
  | reRead q =>
    by_cases hh : s.holds (.capture k) = true
    · refine ⟨s.arbiter.captureWaiting, ?_, .inl rfl⟩
      simp only [State.abandonDispatch, State.giveUpReRead, he, hh, if_true, stoppedEngine]
      rfl
    · refine ⟨s.arbiter.captureWaiting.set k false, ?_, .inr rfl⟩
      simp only [State.abandonDispatch, State.giveUpReRead, he, hh, Bool.false_eq_true, if_false, stoppedEngine]
      rfl

/-! ## Entry to UP and loss -/

/-- The examination of tiles at the entry to UP changes tiles and the attention queue only (R40). -/
theorem State.joinTiles_frame (k : Link) (ts : List TileIdx) (s : State) :
    ∃ x a, ts.foldl (State.joinTile k) s = { s with tiles := x, attention := a } := by
  induction ts generalizing s with
  | nil => exact ⟨s.tiles, s.attention, rfl⟩
  | cons t ts ih =>
    have one : ∃ x a, State.joinTile k s t = { s with tiles := x, attention := a } := by
      simp only [State.joinTile]
      split
      · split
        · exact ⟨_, _, rfl⟩
        · exact ⟨s.tiles, _, rfl⟩
      · exact ⟨s.tiles, s.attention, rfl⟩
    obtain ⟨x, a, e⟩ := one
    obtain ⟨x', a', e'⟩ := ih (State.joinTile k s t)
    exact ⟨x', a', by rw [List.foldl_cons, e', e]⟩

/-- A loss changes link slices, tiles, cells, the arbiter's waiting requests, the present, the query, the attention queue and the
free-value counter, and nothing else (R131). -/
theorem State.loseLink_frame (s : State) (k : Link) (reason : LossReason) (off : Bool) :
    ∃ l w ts x p q a n, s.loseLink k reason off =
      { s with
        links := l, arbiter := { s.arbiter with captureWaiting := w }, tiles := ts, cells := x, present := p, query := q
        attention := a, freeCount := n } := by
  obtain ⟨w, e, -⟩ := (s.attend (.linkLost k reason)).stopEngine_eq k
  simp only [State.loseLink, e]
  generalize hs : State.makeWaiting _ _ = s₁
  obtain ⟨x, p, q, a, n, e'⟩ := s₁.leaveActive_frame (s.activeTiles k) ((s.link k).queue ++ (s.link k).backlog)
  rw [e']
  subst hs
  cases off
  · exact ⟨_, w, _, x, p, q, a, n, rfl⟩
  · exact ⟨_, w, _, x, p, q, a, n, rfl⟩

/-- The link slices after a loss: the lost one dropped and, but for LINK DISABLE, at the start of an attempt; the others as they
were (R131). -/
theorem State.link_loseLink (s : State) (k j : Link) (reason : LossReason) (off : Bool) :
    (s.loseLink k reason off).link j =
      if j = k then
        let l := LinkSlice.dropUp { s.link k with engine := stoppedEngine (s.holds (.capture k)) (s.link k).engine }
        if off then { l with partnerHeard := false } else l.beginAttempt s.timers.attemptTime
      else s.link j := by
  obtain ⟨w, e, -⟩ := (s.attend (.linkLost k reason)).stopEngine_eq k
  simp only [State.loseLink, e]
  generalize hs : State.makeWaiting _ _ = s₁
  have links : s₁.links = s.links.set k (LinkSlice.dropUp
      { s.link k with engine := stoppedEngine (s.holds (.capture k)) (s.link k).engine }) := by
    subst hs
    simp [State.makeWaiting, State.updateLink, State.setLink, State.link, State.attend, State.holds]
  have timers : s₁.timers = s.timers := by subst hs; rfl
  obtain ⟨x, p, q, a, n, e'⟩ := s₁.leaveActive_frame (s.activeTiles k) ((s.link k).queue ++ (s.link k).backlog)
  rw [e']
  by_cases h : j = k
  · subst h
    cases off <;> simp [State.afterLoss, State.beginAttempt, State.updateLink, State.setLink, State.link, links, timers]
  · have h' : (k : Nat) ≠ j := fun g => h (Fin.ext g.symm)
    cases off <;> simp [State.afterLoss, State.beginAttempt, State.updateLink, State.setLink, State.link, links, timers, h, h']

end Sys2Proof.Machine
end

