-- ==== Sys2Proof/Laws/Memory.lean ====
section
/-! SUPPORT. The frame store: every operation keeps the canonical form, and what a read gives after a write. -/

namespace Sys2Proof.Machine

/-- The canonical form, as a fact about the head and the rest of the list. -/
theorem Memory.wf_cons (a : Nat) (v : Byte) (m : List Host.Cell) :
    Memory.wf ((a, v) :: m) = true ↔
      a < Config.storeBytes ∧ v ≠ Memory.unlisted ∧ (∀ b ∈ m, a < b.1) ∧ Memory.wf m = true := by
  simp [Memory.wf, and_assoc]

/-- What a byte put in its place leaves in the list: the byte itself, or one that was there. -/
theorem Memory.mem_put (a : Nat) (v : Byte) (m : List Host.Cell) :
    ∀ b ∈ Memory.writeByte.put a v m, b = (a, v) ∨ b ∈ m := by
  induction m with
  | nil => intro b h; simp only [Memory.writeByte.put] at h; split at h <;> simp_all
  | cons c m ih =>
    obtain ⟨d, u⟩ := c
    intro b h
    simp only [Memory.writeByte.put] at h
    split at h
    · split at h <;> simp_all
    · split at h
      · split at h
        · simp [h]
        · rcases List.mem_cons.mp h with h | h <;> simp [h]
      · rcases List.mem_cons.mp h with h | h
        · simp [h]
        · rcases ih b h with h | h <;> simp [h]

/-- A byte put in its place keeps the canonical form. -/
theorem Memory.wf_put (a : Nat) (v : Byte) (m : List Host.Cell) (ha : a < Config.storeBytes) (h : Memory.wf m = true) :
    Memory.wf (Memory.writeByte.put a v m) = true := by
  induction m with
  | nil =>
    simp only [Memory.writeByte.put]
    split
    · rfl
    · next hv => simpa [Memory.wf] using ⟨ha, hv⟩
  | cons c m ih =>
    obtain ⟨d, u⟩ := c
    obtain ⟨hd, hu, hm, hw⟩ := (Memory.wf_cons d u m).mp h
    simp only [Memory.writeByte.put]
    split
    · next had =>
      split
      · exact h
      · next hv =>
        refine (Memory.wf_cons a v _).mpr ⟨ha, hv, ?_, h⟩
        intro b hb
        rcases List.mem_cons.mp hb with rfl | hb
        · exact had
        · exact had.trans (hm b hb)
    · next had =>
      split
      · next hae =>
        split
        · exact hw
        · next hv => exact (Memory.wf_cons a v m).mpr ⟨ha, hv, hae ▸ hm, hw⟩
      · next hne =>
        refine (Memory.wf_cons d u _).mpr ⟨hd, hu, ?_, ih hw⟩
        intro b hb
        rcases Memory.mem_put a v m b hb with rfl | hb
        · exact Nat.lt_of_le_of_ne (Nat.le_of_not_lt had) (Ne.symm hne)
        · exact hm b hb

/-- A byte write keeps the canonical form. -/
theorem Memory.wf_writeByte (m : List Host.Cell) (a : Nat) (v : Byte) (h : Memory.wf m = true) :
    Memory.wf (Memory.writeByte m a v) = true := by
  unfold Memory.writeByte
  split
  · next ha => exact Memory.wf_put a v m ha h
  · exact h

/-- A pixel store keeps the canonical form. -/
theorem Memory.wf_setPixel (m : List Host.Cell) (x y : Coord) (v : Word) (h : Memory.wf m = true) :
    Memory.wf (Memory.setPixel m x y v) = true :=
  Memory.wf_writeByte _ _ _ (Memory.wf_writeByte _ _ _ h)

/-- A masked pixel write keeps the canonical form. -/
theorem Memory.wf_writePixel (m : List Host.Cell) (mask : Word) (x y : Coord) (v : Word) (h : Memory.wf m = true) :
    Memory.wf (Memory.writePixel m mask x y v) = true := Memory.wf_setPixel m x y _ h

/-- Masked pixel writes over any columns keep the canonical form. -/
theorem Memory.wf_foldl_writePixel (xs : List Coord) (m : List Host.Cell) (mask : Word) (y : Coord) (v : Word)
    (h : Memory.wf m = true) : Memory.wf (xs.foldl (fun m x => Memory.writePixel m mask x y v) m) = true := by
  induction xs generalizing m with
  | nil => exact h
  | cons x xs ih => exact ih _ (Memory.wf_writePixel m mask x y v h)

/-- A row write keeps the canonical form. -/
theorem Memory.wf_writeRow (m : List Host.Cell) (mask : Word) (x0 x1 y : Coord) (v : Word) (h : Memory.wf m = true) :
    Memory.wf (Memory.writeRow m mask x0 x1 y v) = true := Memory.wf_foldl_writePixel _ m mask y v h

/-- The store right after reset is in canonical form. -/
theorem State.wf_reset_store : Memory.wf State.reset.store = true := rfl

/-- A byte below every listed address reads as an unlisted one. -/
theorem Memory.readByte_of_lt (m : List Host.Cell) (a : Nat) (h : ∀ b ∈ m, a < b.1) :
    Memory.readByte m a = Memory.unlisted := by
  induction m with
  | nil => rfl
  | cons c m ih =>
    obtain ⟨d, u⟩ := c
    have hd : a < d := h (d, u) (List.mem_cons_self ..)
    simp only [Memory.readByte, Nat.ne_of_lt hd, if_false]
    exact ih fun b hb => h b (List.mem_cons_of_mem _ hb)

/-- The byte put reads back, and every other address reads as before. -/
theorem Memory.readByte_put (a : Nat) (v : Byte) (m : List Host.Cell) (h : Memory.wf m = true) (b : Nat) :
    Memory.readByte (Memory.writeByte.put a v m) b = if b = a then v else Memory.readByte m b := by
  induction m with
  | nil =>
    simp only [Memory.writeByte.put]
    split
    · next hv => by_cases hb : b = a <;> simp [Memory.readByte, hb, hv]
    · by_cases hb : b = a <;> simp [Memory.readByte, hb]
  | cons c m ih =>
    obtain ⟨d, u⟩ := c
    obtain ⟨-, -, hm, hw⟩ := (Memory.wf_cons d u m).mp h
    simp only [Memory.writeByte.put]
    split
    · next had =>
      split
      · next hv =>
        by_cases hb : b = a
        · have : Memory.readByte ((d, u) :: m) a = Memory.unlisted := by
            apply Memory.readByte_of_lt
            intro x hx
            rcases List.mem_cons.mp hx with rfl | hx
            · exact had
            · exact had.trans (hm x hx)
          simp [hb, hv, this]
        · simp [hb]
      · by_cases hb : b = a <;> simp [Memory.readByte, hb]
    · split
      · next hae =>
        subst hae
        split
        · next hv =>
          by_cases hb : b = a
          · simp [hb, hv, Memory.readByte_of_lt m a hm]
          · simp [Memory.readByte, hb]
        · by_cases hb : b = a <;> simp [Memory.readByte, hb]
      · next hne =>
        simp only [Memory.readByte, ih hw]
        by_cases hbd : b = d
        · have : b ≠ a := fun e => hne (e ▸ hbd)
          simp [hbd, Ne.symm hne]
        · simp [hbd]

/-- A byte written inside the store reads back, and every other address reads as before. -/
theorem Memory.readByte_writeByte (m : List Host.Cell) (a : Nat) (v : Byte) (h : Memory.wf m = true)
    (ha : a < Config.storeBytes) (b : Nat) :
    Memory.readByte (Memory.writeByte m a v) b = if b = a then v else Memory.readByte m b := by
  simp [Memory.writeByte, ha, Memory.readByte_put a v m h]

/-- A pixel's two bytes lie inside the store. -/
theorem Memory.pixelAddress_lt (x y : Coord) : Memory.pixelAddress x y + 1 < Config.storeBytes := by
  simp only [Memory.pixelAddress, Config.storeBytes]; omega

/-- Different store positions have different addresses. -/
theorem Memory.pixelAddress_inj (x y x' y' : Coord) :
    Memory.pixelAddress x y = Memory.pixelAddress x' y' ↔ x = x' ∧ y = y' := by
  simp only [Memory.pixelAddress, Fin.ext_iff]; omega

/-- A word is its high byte before its low byte. -/
theorem Memory.bytes_append (v : Word) : v.extractLsb' 8 8 ++ v.extractLsb' 0 8 = v := by
  ext i hi
  simp only [BitVec.getElem_append, BitVec.getElem_extractLsb']
  split
  · simp [← BitVec.getLsbD_eq_getElem]
  · rw [show 8 + (i - 8) = i by omega]; simp [BitVec.getLsbD_eq_getElem hi]

/-- A pixel stored reads back, and every other pixel reads as before. -/
theorem Memory.pixel_setPixel (m : List Host.Cell) (x y x' y' : Coord) (v : Word) (h : Memory.wf m = true) :
    Memory.pixel (Memory.setPixel m x y v) x' y' = if x' = x ∧ y' = y then v else Memory.pixel m x' y' := by
  have h1 := Memory.pixelAddress_lt x y
  have hw := Memory.wf_writeByte m (Memory.pixelAddress x y) (v.extractLsb' 8 8) h
  have hr := Memory.readByte_writeByte _ (Memory.pixelAddress x y + 1) (v.extractLsb' 0 8) hw h1
  have hr' := Memory.readByte_writeByte m (Memory.pixelAddress x y) (v.extractLsb' 8 8) h (by omega)
  simp only [Memory.pixel, Memory.setPixel, hr, hr']
  by_cases e : x' = x ∧ y' = y
  · obtain ⟨rfl, rfl⟩ := e
    simp [Memory.bytes_append]
  · have hne : Memory.pixelAddress x' y' ≠ Memory.pixelAddress x y := fun g => e ((Memory.pixelAddress_inj ..).mp g)
    have hpar : Memory.pixelAddress x' y' % 2 = 0 ∧ Memory.pixelAddress x y % 2 = 0 := by
      simp [Memory.pixelAddress]
    have h2 : Memory.pixelAddress x' y' ≠ Memory.pixelAddress x y + 1 := by omega
    have h3 : Memory.pixelAddress x' y' + 1 ≠ Memory.pixelAddress x y := by omega
    have h4 : Memory.pixelAddress x' y' + 1 ≠ Memory.pixelAddress x y + 1 := by omega
    simp [e, hne, h2, h3]

/-- A masked pixel write changes its pixel through the mask and no other. -/
theorem Memory.pixel_writePixel (m : List Host.Cell) (mask : Word) (x y x' y' : Coord) (v : Word)
    (h : Memory.wf m = true) :
    Memory.pixel (Memory.writePixel m mask x y v) x' y' =
      if x' = x ∧ y' = y then maskedWord mask (Memory.pixel m x y) v else Memory.pixel m x' y' :=
  Memory.pixel_setPixel m x y x' y' _ h

/-- Masked pixel writes over distinct columns of one row change exactly those columns of it. -/
theorem Memory.pixel_foldl_writePixel (xs : List Coord) (hn : xs.Nodup) (m : List Host.Cell) (mask : Word) (y : Coord)
    (v : Word) (h : Memory.wf m = true) (x' y' : Coord) :
    Memory.pixel (xs.foldl (fun m x => Memory.writePixel m mask x y v) m) x' y' =
      if y' = y ∧ x' ∈ xs then maskedWord mask (Memory.pixel m x' y') v else Memory.pixel m x' y' := by
  induction xs generalizing m with
  | nil => simp
  | cons x xs ih =>
    obtain ⟨hx, hn⟩ := List.nodup_cons.mp hn
    rw [List.foldl_cons, ih hn _ (Memory.wf_writePixel m mask x y v h), Memory.pixel_writePixel m mask x y x' y' v h]
    by_cases hy : y' = y
    · by_cases e : x' = x
      · subst e; subst hy; simp [hx]
      · simp [hy, e]
    · simp [hy]

/-- A row write changes its row's columns through the mask and nothing else. -/
theorem Memory.pixel_writeRow (m : List Host.Cell) (mask : Word) (x0 x1 y : Coord) (v : Word) (h : Memory.wf m = true)
    (x' y' : Coord) :
    Memory.pixel (Memory.writeRow m mask x0 x1 y v) x' y' =
      if y' = y ∧ x0 ≤ x' ∧ x' ≤ x1 then maskedWord mask (Memory.pixel m x' y') v else Memory.pixel m x' y' := by
  have hn : (columnsOf x0 x1).Nodup := (List.nodup_finRange 512).filter _
  rw [Memory.writeRow, Memory.pixel_foldl_writePixel _ hn m mask y v h]
  simp [columnsOf]

end Sys2Proof.Machine
end

