-- ==== Sys2Proof/Laws/Receiver.lean ====
section
/-! SUPPORT. What the receiver of a link can do with one symbol, said once for each kind of symbol (R101, R188). -/

namespace Sys2Proof.Machine

open Sys2Proof.Safety

/-- A unit has the length of its kind exactly when the receiver's length of its kind is its length. -/
theorem lengthOfKind_iff (bytes : List Byte) :
    LengthOfKind bytes ↔ bytes.head?.bind noticeLength = some bytes.length := by
  cases bytes with
  | nil => simp [LengthOfKind]
  | cons a l =>
    simp only [LengthOfKind, List.head?_cons, Option.bind_some, noticeLength, List.mem_cons, Prod.mk.injEq, Option.some.injEq,
      ← BitVec.toNat_inj, List.not_mem_nil, or_false]
    split <;> simp_all

/-- A byte joins the notice in progress and ends it when the length of its kind has come. -/
theorem receiveSymbol_data (bytes : List Byte) (b : Byte) :
    (LengthOfKind (bytes ++ [b]) → receiveSymbol (some bytes) (.data b) = (none, some (bytes ++ [b]))) ∧
    (¬ LengthOfKind (bytes ++ [b]) → receiveSymbol (some bytes) (.data b) = (some (bytes ++ [b]), none)) := by
  rw [lengthOfKind_iff]
  simp only [receiveSymbol]
  cases (bytes ++ [b]).head?.bind noticeLength with
  | none => simp
  | some n =>
    simp only [Option.some.injEq]
    exact ⟨fun h => if_pos h.symm, fun h => if_neg (Ne.symm h)⟩

/-- A symbol that ends no unit changes the notice in progress of its link alone. -/
theorem State.receive_of_none {s : State} {k : Link} {y : Symbol} {r : Option (List Byte)} (high : s.nReset = true)
    (h : receiveSymbol (s.link k).receiving y = (r, none)) :
    s.receive k y = .next (s.updateLink k fun l => { l with receiving := r }) := by
  simp only [State.receive, high, if_true, h]

/-- A symbol that ends a unit is that unit's notice command, run with the receiver as the symbol leaves it. -/
theorem State.receive_of_unit {s : State} {k : Link} {y : Symbol} {r : Option (List Byte)} {bytes : List Byte}
    (high : s.nReset = true) (h : receiveSymbol (s.link k).receiving y = (r, some bytes)) :
    s.receive k y = exec (noticeCommand k bytes) (s.updateLink k fun l => { l with receiving := r }) := by
  simp only [State.receive, high, if_true, h]

/-- Nothing is received while nRESET is low. -/
theorem State.receive_in_reset {s : State} (low : s.nReset = false) (k : Link) (y : Symbol) : s.receive k y = .next s := by
  simp only [State.receive, low, Bool.false_eq_true, if_false]

end Sys2Proof.Machine
end

