-- ==== Sys2Proof/Tests/Slice0.lean ====
section
/-! SUPPORT. Tests of the model: the well-formedness check, single steps taken from the manual's worked examples, the checks of the
frames, and one witness for each statement that has hypotheses. -/

namespace Sys2Proof.Tests

open Sys2Proof.Machine Sys2Proof.Safety

/-! ## Helpers -/

/-- Whether a command answers a next state that satisfies p. -/
def after (c : Instr) (s : State) (p : State → Bool) : Bool :=
  match exec c s with
  | .next t => p t
  | .fault _ => false
  | .refused _ => false

/-- The state when the start-up clear has ended. -/
def ready : State :=
  { State.reset with
    notReady := false
    window := .hardReset
    arbiter := { State.reset.arbiter with holder := none } }

/-- `ready` with words in the parameter FIFO. -/
def given (ps : List Word) : State := { ready with cu := { ready.cu with params := ps } }

/-- `ready` with the unit BUSY. -/
def busy : State := { ready with cu := { ready.cu with busy := true, lastCode := 0x05 } }

/-- `ready` with the window side at an operation it holds the grant for, and what is held behind it. -/
def atWork (op : WindowOp) (held : List HeldOp) : State :=
  { ready with
    window := { ready.window with op := op, held := held }
    arbiter := { ready.arbiter with holder := some .window } }

/-- A link in UP: two live BLANK records of tile 0, credit 2 of 4 at position 0. -/
def up : LinkSlice :=
  { LinkSlice.hardReset with
    state := .up, partnerHeard := true, nextSeq := 2, silenceTimer := some 25, replayTimer := some 20
    hold := [⟨0, 0, 0, false, .blank 0⟩, ⟨1, 0, 0, false, .blank 1⟩]
    positions := (Vector.replicate 4 PositionRecord.hardReset).set 0 ⟨true, 4, 2, 2, 0, 6, 0, false⟩ }

/-- `ready` with a slice for link 0, a wall of 64 columns and 4 wall bands, and tile 0 ACTIVE on link 0 with wall bands 0 to 3. -/
def wall (l : LinkSlice) : State :=
  { ready with
    map := { ready.map with width := 64, bandCount := 4 }
    tiles := ready.tiles.set 0 ⟨.active, 0, 0, 0, 64, 0, 4⟩
    links := ready.links.set 0 l }

/-- `wall up` with words in the parameter FIFO. -/
def wallGiven (l : LinkSlice) (ps : List Word) : State := { wall l with cu := { ready.cu with params := ps } }

/-- `wall l` with the store granted to link 0's capture engine. -/
def capturing (l : LinkSlice) : State := { wall l with arbiter := { ready.arbiter with holder := some (.capture 0) } }

/-- `s` with a present. -/
def withPresent (s : State) (p : PresentRecord) : State := { s with present := p }

/-- A COLLECTING present of tile 0 with two cells to be delivered. -/
def collecting : PresentRecord := ⟨.collecting, 12, 1, 0, 2, some 5, .none⟩

/-- A SHOWING present of tile 0. -/
def showing : PresentRecord := ⟨.showing, 12, 1, 0, 0, some 5, .none⟩

/-! ## Well-formedness -/

/-- An UNKNOWN_COMMAND with a listed code is no command of the block. -/
theorem test_wellFormed_refuses_listed_code :
    (Instr.unknownCommand 0x1A).WellFormed = false ∧ (Instr.unknownCommand 0x01).WellFormed = false ∧
    (Instr.unknownCommand 0x1B).WellFormed = true ∧ (Instr.unknownCommand 0).WellFormed = true := by decide

/-- The table gives no row any bits. -/
theorem test_decode_gives_no_row : decodeTableWord 8 0 = none ∧ State.reset.withFetchWord 16 5 = State.reset := ⟨rfl, rfl⟩

/-! ## Host accesses and frames (Tables 11-1, 11-3, 11-9, 11-10, R188) -/

/-- Table 11-1 and Table 11-3: what a host write of a location is. -/
theorem test_hostWrite :
    hostWrite 0x04 0x001A = .softReset ∧ hostWrite 0x04 0x011A = .unknownCommand 0x011A ∧
    hostWrite 0x08 7 = .pixelWrite 7 ∧ hostWrite 0x14 1 = .registerWrite (.linkStatus 3) 1 ∧
    hostWrite 0x1F 1 = .registerWrite (.unused 10) 1 ∧ hostRead 0x0D = some .attentionRead ∧ hostRead 0x0E = none := by decide

set_option maxRecDepth 20000 in
/-- R188's check values for the nine bytes "123456789". -/
theorem test_checks :
    crc32 [0x31, 0x32, 0x33, 0x34, 0x35, 0x36, 0x37, 0x38, 0x39] = 0xFC891918 ∧
    crc16 [0x31, 0x32, 0x33, 0x34, 0x35, 0x36, 0x37, 0x38, 0x39] = 0x29B1 := by decide

/-- Table 11-9: a BLANK frame of wall band 4, seq 102, chain position 2, with hold. -/
theorem test_blank_frame_bytes :
    (Frame.sequenced 102 2 true (.blank 4) []).body = [0x03, 0xA0, 0x66, 0x04] := by decide

set_option maxRecDepth 20000 in
/-- Table 11-10: an ACK naming seq 102 with bits 15..12 set, and a unit cut short. -/
theorem test_notice_bytes :
    noticeCommand 1 (withCheck [0x82, 0xF0, 0x66]) = .ackNotice 1 102 ∧
    noticeCommand 1 [0x82, 0xF0] = .invalidNotice 1 ∧
    receivedUnits [.data 9, .start, .data 0x86, .data 1, .data 2, .start, .data 0x82, .fill] =
      [[0x86, 1, 2], [0x82]] := by decide

/-- R188: a frame is sent as START and its bytes, cut off it ends with FILL, and a transmitter with no frame sends FILL. -/
theorem test_sent_symbols :
    (Frame.sequenced 102 2 true (.blank 4) []).symbols.take 5 = [.start, .data 0x03, .data 0xA0, .data 0x66, .data 0x04] ∧
    (Frame.sequenced 102 2 true (.blank 4) []).cutSymbols 2 = [.start, .data 0x03, .data 0xA0, .fill] ∧
    LinkSlice.hardReset.tx.symbols = [.fill] ∧ ({ LinkSlice.hardReset with tx := ⟨some (.hello true), false⟩ } : LinkSlice).cutOff.tx.symbols = [.fill] := by decide

/-- The notice in progress on link 3 after symbols have been received on it. -/
def receivingAfter (symbols : List Symbol) (s : State) : Option (Option (List Byte)) :=
  match State.receiveAll 3 symbols s with
  | .next t => some (t.link 3).receiving
  | .fault _ => none
  | .refused _ => none

/-- R110: SOFT RESET abandons the notice in progress, of an OFF link too, and bytes that arrive after it are outside a notice. -/
theorem test_softReset_abandons_notice :
    receivingAfter [.start, .data 0x86] ready = some (some [0x86]) ∧
    after .softReset { ready with links := ready.links.set 3 { LinkSlice.hardReset with receiving := some [0x86] } }
      (fun t => (t.link 3).receiving == none) = true ∧
    receivingAfter [.data 1, .data 2] ready = some none := by decide

/-! ## Reset and start-up (R1, R2) -/

theorem test_hardResetEnd_is_reset : after .hardResetEnd State.inReset (· == State.reset) = true := by decide

theorem test_startUpClear_goes_to_row_1 :
    after .startUpClearRow State.reset (fun t => t.fill.clearRow == 1 && t.window.op == .clearRow && t.notReady) = true := by
  decide

/-! ## Table 1-3: a masked read-modify-write run -/

/-- Row 9 with pixel (20, 9) = 1000, the window (20, 9, 21, 9), modify on and the mask of the low eight bits. -/
def run13 : State :=
  { ready with
    store := Memory.setPixel [] 20 9 1000
    window := { ready.window with
      rect := ⟨20, 9, 21, 9⟩, x := 20, y := 9, modify := true, mask := 0x00FF, latch := 1000 } }

theorem test_pixelRead_returns_latch :
    after .pixelRead run13 (fun t => t.bus.data == 1000 && t.window.x == 20 && t.window.op == .idle) = true := by decide

theorem test_landing_keeps_masked_bits :
    after .windowWriteLanding
      { run13 with
        window := { run13.window with op := .pixelWrite 7 }, arbiter := { run13.arbiter with holder := some .window } }
      (fun t => Memory.pixel t.store 20 9 == 775 && t.window.x == 21 && t.window.y == 9 && !t.window.wrapped) = true := by decide

theorem test_landing_wraps :
    after .windowWriteLanding
      { run13 with
        window := { run13.window with op := .pixelWrite 300, x := 21 }
        arbiter := { run13.arbiter with holder := some .window } }
      (fun t => Memory.pixel t.store 21 9 == 44 && t.window.x == 20 && t.window.y == 9 && t.window.wrapped) = true := by decide

/-- R21: a read whose cycle the host has ended still acts on the latch and pointer, with READY high, and gives the host nothing; so
too when a status read has ended it. -/
theorem test_ended_read_delivers_nothing :
    let s := { atWork (.latchLoad .access) [.pixelRead] with bus := ⟨.stretchedRead, 0⟩, store := Memory.setPixel [] 0 0 5 }
    s.ready = false ∧ s.hostEndsCycle.ready = true ∧ s.hostEndsCycle.freeCount = 1 ∧
    after .latchLoad s (fun t => t.bus.data == 5 && t.ready && t.window.x == 1) = true ∧
    after .latchLoad { s with bus := ⟨.none, 9⟩ } (fun t => t.bus.data == 9 && t.ready && t.window.x == 1) = true ∧
    (match s.hostReads 0x0A with
      | .next t => t.ready && t.freeCount == 1
      | .fault _ => false
      | .refused _ => false) = true := by decide

/-! ## Table 2-6: ROLL (+1) on a 2 × 2 wall -/

theorem test_roll_moves_four_bands :
    after .roll
      { given [1] with map := { ready.map with
          width := 64, bandCount := 4, rollFirst := 0, rollCount := 4, ringBase := 10, ringCount := 6, origin := 0 } }
      (fun t => t.map.origin == 1 && t.cu.busy && t.map.sweep == some ⟨[0, 1, 2, 3], [0, 1, 2, 3]⟩ &&
        t.map.resolve 3 == some 14) = true := by decide

/-! ## Table 3-4: disabling a tile with work queued and in flight (one tile of it) -/

theorem test_tileDisable_keeps_other_entries :
    after .tileDisable
      { wallGiven { up with queue := [.cell 4 2, .cell 0 2, .query 0 17, .cell 0 3] } [0] with
        query := ⟨true, 0, 17, .none, 0, 0, 0, 0, some 10⟩ }
      (fun t => (t.link 0).queue == [.cell 4 2] && (t.link 0).hold.all (·.orphan) && t.query.outcome == .lost &&
        ((t.link 0).position 0).credit == 2 && (t.tile 0).state == .disabled) = true := by decide

/-- R44: the queued entry of an ended query of tile 0 does not end the query of tile 4 whose tag is the same. -/
theorem test_tileDisable_leaves_another_query :
    after .tileDisable
      { wallGiven { up with queue := [.query 0 17] } [0] with query := ⟨true, 4, 17, .none, 0, 0, 0, 0, some 10⟩ }
      (fun t => (t.link 0).queue == [] && t.query.waiting && t.attention.records == []) = true := by decide

/-! ## Tables 5-5 and 5-9: selections and captures -/

/-- CELL (1, 4) has no credit; CELL (0, 0) of another tile is stepped to. -/
theorem test_selection_steps_over :
    oldestEligible (fun t => t != 1) [] [.cell 1 4, .cell 0 0, .query 1 9, .cell 2 5] = some (.cell 0 0) := by decide

/-- A capture overtaken by a map command asks for the new store band. -/
theorem test_captureGrantEnd_asks_again :
    after (.captureGrantEnd 0)
      { capturing { up with queue := [.cell 0 2], engine := .dispatch 0 2 20 } with
        map := { ready.map with width := 64, bandCount := 4, entries := ready.map.entries.set 2 (some 21) } }
      (fun t => (t.link 0).engine == .dispatch 0 2 21 && t.holds (.capture 0) && (t.link 0).queue == [.cell 0 2]) = true := by
  decide

/-! ## Table 6-5: arrivals -/

theorem test_hello_with_chain_length_5_is_bad :
    after (.helloNotice 0 false 5 (Vector.replicate 4 4) (Vector.replicate 4 0))
      (wall { LinkSlice.hardReset with state := .training })
      (fun t => (t.link 0).badNotice && !(t.link 0).partnerHeard) = true := by decide

theorem test_ack_before_any_frame_is_stray :
    after (.ackNotice 0 0) (wall { up with hold := [], nextSeq := 0, replayTimer := none }) (fun t => (t.link 0).stray) = true := by
  decide

/-! ## Table 7-6: a NAK and a replay -/

theorem test_nak_starts_replay :
    after (.nakNotice 0 102)
      (wall { up with
        nextSeq := 105
        hold := [⟨100, 0, 0, false, .blank 0⟩, ⟨101, 0, 0, false, .blank 1⟩, ⟨102, 0, 0, false, .blank 2⟩,
          ⟨103, 0, 0, false, .blank 3⟩, ⟨104, 0, 0, false, .query 9⟩] })
      (fun t => (t.link 0).hold.map (·.seq) == [102, 103, 104] && (t.link 0).replayPoint == some 102 &&
        (t.link 0).replayCount == 1) = true := by decide

/-! ## Table 8-3: credit across a lost TILE STATUS -/

/-- `up` with the record of position 0 as in a row of the table. -/
def row83 (credit outstanding : Nat) (freed : Byte) : LinkSlice :=
  { up with positions := up.positions.set 0 ⟨true, 4, credit, outstanding, freed, 6, 0, true⟩ }

theorem test_tileStatus_returns_four :
    after (.tileStatusNotice 0 0 5 6 0) (wall (row83 0 4 1))
      (fun t => (t.link 0).position 0 == ⟨true, 4, 4, 0, 5, 6, 0, true⟩) = true := by decide

theorem test_tileStatus_excess :
    after (.tileStatusNotice 0 0 7 6 0) (wall (row83 3 1 5))
      (fun t => (t.link 0).position 0 == ⟨true, 4, 4, 0, 7, 6, 0, true⟩ && (t.link 0).creditExcess &&
        t.attention.records == [⟨.creditExcess 0 (.tile 0), false⟩]) = true := by decide

/-! ## Tables 10-3 and 11-11 -/

/-- At 16 records a further one is discarded and sets the gap flag; the next that joins carries the mark. -/
theorem test_attention_gap :
    let a : Attention := { ready.attention with records := List.replicate 16 ⟨.linkUp 1, false⟩ }
    a.append (.linkUp 1) = { a with gapFlag := true } ∧
    ((a.append (.linkUp 1)).read.append (.linkUp 1)).records.getLast? = some ⟨.linkUp 1, true⟩ := by decide

/-- COMMAND STATUS returns 7005h and clears done and collision. -/
theorem test_commandStatus_7005 :
    after .commandStatusRead { ready with cu := ⟨false, List.replicate 8 1, [], 0x05, .ok, true, true, true⟩ }
      (fun t => t.bus.data == 0x7005 && !t.cu.done && !t.cu.collision && t.cu.overflow) = true := by decide

/-- The second ROLL is refused with LONG, empties the FIFO and clears the overflow flag. -/
theorem test_overflow_refuses_long :
    after .roll { ready with cu := ⟨false, List.replicate 8 1, [], 0x05, .ok, false, false, true⟩ }
      (fun t => t.cu == ⟨false, [], [], 0x09, .long, true, false, false⟩) = true := by decide

/-! ## Table 9-4: a present -/

/-- The last cleared mark sends one SHOW for each participant. -/
theorem test_last_mark_shows :
    after (.ackNotice 0 0)
      (State.setCell (withPresent (wall up) { collecting with remaining := 1 }) 0 0 ⟨.inflight, true⟩)
      (fun t => t.present.state == .showing && (t.link 0).queue == [.showTile 0 12] && t.cell 0 0 == ⟨.clean, false⟩) = true := by
  decide

/-! ## Witnesses: a state and operands that meet the hypotheses of each statement, clause by clause -/

theorem witness_StepRunsTheFrontCommand :
    { ready with pending := [.mapRead] }.pending = [Instr.mapRead] ∧ ready.pending = [] ∧
    (∃ t, exec .hardReset ready = .next t) := ⟨rfl, rfl, _, rfl⟩

theorem witness_EveryWellFormedCommandHasANextState :
    (Instr.mapRead.WellFormed = true ∧ State.inReset.nReset = false ∧ Instr.mapRead ≠ .hardReset ∧ Instr.mapRead ≠ .hardResetEnd) ∧
    (Instr.unknownCommand 0x1A).WellFormed = false := by decide

theorem witness_ResetPinRestoresAndStarts :
    (State.inReset.nReset = false ∧ State.inReset.arbiter.holder = none ∧ State.inReset.arbiter.windowWaiting = false ∧
      ∀ k : Link, State.inReset.arbiter.captureWaiting[k] = false) ∧
    ready.nReset = true := by decide

/-- Row 0 and row 511. -/
theorem witness_StartUpClearRowZeroesOneRow :
    ∀ row ∈ [0, 511],
      let s := { State.reset with fill := { State.reset.fill with clearRow := row } }
      StoreForm s ∧ s.nReset = true ∧ s.window.op = .clearRow ∧ s.arbiter.holder = some .window ∧ s.fill.clearRow ≤ 511 ∧
      s.arbiter.windowWaiting = false ∧ (∀ k : Link, s.arbiter.captureWaiting[k] = false) := by
  unfold StoreForm; decide

/-- An OFF link and an UP one, holding the grant and not. -/
theorem witness_SoftResetResetsEveryBlock :
    State.reset.nReset = true ∧ State.reset.cu.busy = false ∧ (State.reset.link 0).state = .off ∧
    (wall up).nReset = true ∧ (wall up).cu.busy = false ∧ ((wall up).link 0).state ≠ .off ∧
    (wall { up with engine := .reRead 0 }).holds (.capture 0) = false := by decide

theorem witness_CommandsCollideWhileBusy :
    busy.nReset = true ∧ busy.cu.busy = true ∧ (commandRow .roll).isSome = true ∧ (Instr.unknownCommand 0x1B).WellFormed = true := by
  decide

/-- SET POINTER with three words, with an overflow, with one word, and with its two words while NOT_READY. -/
theorem witness_FirstFourChecksRefuse :
    ((0 : Word).toNat = 0 ∧ 26 < (0x1B : Word).toNat ∧ ready.nReset = true ∧ ready.cu.busy = false) ∧
    (commandRow .setPointer = some (0x03, 2) ∧ Instr.setPointer ≠ .softReset ∧
      2 < (given [0, 0, 0]).cu.params.length ∧
      { ready.cu with overflow := true }.overflow = true ∧
      ((given [0]).cu.overflow = false ∧ (given [0]).cu.params.length < 2) ∧
      (let s := { given [0, 0] with notReady := true }
       s.nReset = true ∧ s.cu.busy = false ∧ s.cu.overflow = false ∧ s.cu.params.length = 2 ∧ s.notReady = true)) := by decide

theorem witness_PixelWriteAsksForTheStore :
    (ready.nReset = true ∧ ready.fill.running = false ∧ ready.notReady = false ∧ WindowFree ready) ∧
    (let s := atWork (.latchLoad .access) []
     s.nReset = true ∧ s.fill.running = false ∧ s.notReady = false ∧ s.window.op ≠ .idle) ∧
    (State.reset.nReset = true ∧ State.reset.notReady = true) := by
  unfold WindowFree; decide

theorem witness_PixelReadGivesTheLatch :
    (∀ m : Bool, let s := { ready with window := { ready.window with modify := m } }
      s.nReset = true ∧ s.fill.running = false ∧ s.notReady = false ∧ WindowFree s ∧ s.window.modify = m) ∧
    (let s := atWork (.pixelWrite 5) []
     s.nReset = true ∧ s.fill.running = false ∧ s.notReady = false ∧ s.window.op ≠ .idle) ∧
    (let s := { ready with fill := { ready.fill with running := true } }
     s.nReset = true ∧ s.fill.running = true) := by
  unfold WindowFree; decide

theorem witness_WindowWriteLandsUnderTheMask :
    let s := atWork (.pixelWrite 7) []
    StoreForm s ∧ s.nReset = true ∧ s.window.op = .pixelWrite 7 ∧ s.arbiter.holder = some .window := by
  unfold StoreForm; decide

theorem witness_LatchLoadTakesThePixelAtThePointer :
    ∀ cause ∈ [LoadCause.access, .command, .fillEnd, .clearEnd],
      let s := atWork (.latchLoad cause) []
      s.nReset = true ∧ s.window.op = .latchLoad cause ∧ s.arbiter.holder = some .window ∧ s.window.held = [] := by decide

/-- Every held operation, alone and with an access or a window command behind it, with modify on and off, behind the load of an
access and of a window command. -/
theorem witness_HeldWorkFollowsTheLatchLoad :
    ∀ h ∈ [HeldOp.pixelWrite 7, .pixelRead, .setWindow ⟨0, 0, 511, 511⟩, .setPointer 511 0, .setMode .columns true, .fillStart],
      ∀ rest ∈ [[], [HeldOp.pixelRead], [.setPointer 0 0]], ∀ cause ∈ [LoadCause.access, .command], ∀ m : Bool,
        let s := atWork (.latchLoad cause) (h :: rest)
        let s := { s with window := { s.window with modify := m } }
        s.nReset = true ∧ s.window.op = .latchLoad cause ∧ (cause = .access ∨ cause = .command) ∧
        s.arbiter.holder = some .window ∧ s.window.held = h :: rest ∧ s.window.modify = m := by decide

/-- One pixel and the whole store, in both orders. -/
theorem witness_AdvanceVisitsTheWholeWindow :
    ∀ r ∈ [(⟨0, 0, 511, 511⟩ : Rect), ⟨511, 511, 511, 511⟩], ∀ o ∈ [Order.rows, .columns],
      let w := { ready.window with rect := r, x := r.x0, y := r.y0, order := o }
      RectOrdered w.rect ∧ w.x = w.rect.x0 ∧ w.y = w.rect.y0 ∧ w.order = o := by
  unfold RectOrdered; decide

/-- Row 6, row 7 (the last of its store band) and row 17 (the last of the rectangle) of Table 1-5. -/
theorem witness_FillRowWritesOneRow :
    ∀ row ∈ [6, 7, 17],
      let s := { atWork .fillRow [] with fill := ⟨true, ⟨4, 6, 9, 17⟩, 5, 0xFFFF, row, 512⟩ }
      StoreForm s ∧ s.nReset = true ∧ s.window.op = .fillRow ∧ s.arbiter.holder = some .window ∧ s.fill.row ≤ s.fill.rect.y1.val := by
  unfold StoreForm; decide

theorem witness_FillRecordsItsWorkAndRuns :
    (Accepted (given [0, 0, 511, 511, 5]) [0, 0, 511, 511, 5] ∧ GoodRect 0 0 511 511 ∧ WindowFree (given [0, 0, 511, 511, 5])) ∧
    (Accepted (given [0, 0, 512, 511, 5]) [0, 0, 512, 511, 5] ∧ ¬ GoodRect 0 0 512 511 ∧ ¬ GoodRect 1 0 0 0 ∧ ¬ GoodRect 0 1 0 0) ∧
    (let s := { given [0, 0, 0, 0, 5] with window := { ready.window with op := .latchLoad .access } }
     Accepted s [0, 0, 0, 0, 5] ∧ GoodRect 0 0 0 0 ∧ s.window.op ≠ .idle) := by
  unfold Accepted GoodRect WindowFree; decide

theorem witness_WindowCommandsTakeEffectInTurn :
    (Accepted (given [511, 0, 511, 511]) [511, 0, 511, 511] ∧ GoodRect 511 0 511 511 ∧ WindowFree (given [511, 0, 511, 511]) ∧
      ¬ GoodRect 0 0 0 512) ∧
    (Accepted (given [511, 0]) [511, 0] ∧ (given [511, 0]).window.rect = ⟨0, 0, 511, 511⟩ ∧ WindowFree (given [511, 0]) ∧
      Accepted (given [512, 0]) [512, 0]) ∧
    (Accepted (given [1, 1]) [1, 1] ∧ WindowFree (given [1, 1]) ∧ Accepted (given [2, 0]) [2, 0]) ∧
    (∀ ps ∈ [[0, 0, 0, 0], [0, 0], [0, 1]],
      let s := { given ps with window := { ready.window with op := .latchLoad .access } }
      Accepted s ps ∧ s.window.op ≠ .idle) := by
  unfold Accepted GoodRect WindowFree; decide

/-- A capture grant with the window waiting; an idle store; a window grant with every capture engine but the last served's waiting. -/
theorem witness_ArbiterChoosesByItsTable :
    (let a : Arbiter := ⟨some (.capture 2), true, Vector.replicate 4 true, 2⟩
     (∃ j, a.holder = some (.capture j)) ∧ a.windowWaiting = true) ∧
    (let a : Arbiter := ⟨some .window, false, #v[true, true, false, true], 2⟩
     (∀ j, a.holder ≠ some (.capture j)) ∧ (3 : Link) = a.lastServed + 1 + 0 ∧ a.captureWaiting[(3 : Link)] = true ∧
       (2 : Link) = a.lastServed + 1 + 3) ∧
    (let a : Arbiter := ⟨some .window, true, Vector.replicate 4 false, 3⟩
     (∀ k : Link, a.captureWaiting[k] = false) ∧ a.windowWaiting = true ∧ a.holder ≠ none) ∧
    ((∀ k : Link, ready.arbiter.captureWaiting[k] = false) ∧ ready.arbiter.windowWaiting = false ∧
      ready.arbiter.holder = none) := by decide

/-- Seven and eight parameters, a result and none. -/
theorem witness_CommandUnitFifosAndFlags :
    ready.nReset = true ∧ (given (List.replicate 7 1)).cu.params.length < 8 ∧ 8 ≤ (given (List.replicate 8 1)).cu.params.length ∧
    { ready.cu with results := [5] }.results = [5] ∧ ready.cu.results = [] := by decide

theorem witness_AttentionQueueGivesThreeWords :
    ready.nReset = true ∧ { ready.attention with readOut := [1] }.readOut = [1] ∧
    (let a := { ready.attention with records := [⟨.linkUp 3, false⟩] }
     a.readOut = [] ∧ a.records = [⟨.linkUp 3, false⟩]) ∧
    (ready.attention.readOut = [] ∧ ready.attention.records = []) ∧
    (List.replicate 15 (⟨.linkUp 1, false⟩ : AttentionRecord)).length < 16 ∧
    16 ≤ (List.replicate 16 (⟨.linkUp 1, false⟩ : AttentionRecord)).length := by decide

theorem witness_RegisterWritesTakeEffectAtOnce :
    ready.nReset = true ∧ ready.bus.cycle = .none ∧ (⟨.stretchedWrite, 0⟩ : Bus).cycle = .stretchedWrite ∧
    (⟨.stretchedRead, 0⟩ : Bus).cycle = .stretchedRead ∧
    (∀ a ∈ [(0x00 : Fin 32), 0x10, 0x1F], a ∉ [(0x04 : Fin 32), 0x05, 0x08, 0x09, 0x0F]) ∧
    commandRow .configureWall = some (0x01, 2) ∧ (0x01 : Word).toNat = (0x01 : Byte).toNat ∧
    commandRow .softReset = some (0x1A, 0) ∧ (0x1A : Word).toNat = (0x1A : Byte).toNat ∧ 26 < (0x1B : Word).toNat ∧
    (let s := { atWork (.latchLoad .access) [.pixelRead] with bus := ⟨.stretchedRead, 0⟩ }
     s.nReset = true ∧ hostRead 0x07 = some .commandStatusRead ∧ hostRead 0x0A = none) ∧
    (∀ a ∈ [(0x00 : Fin 32), 0x0E, 0x1F], a ∉ [(0x06 : Fin 32), 0x07, 0x08, 0x0D]) := by decide

/-- (8, 1) and (512, 48) are good, (0, 1) and (8, 49) are not; a tile enabled and none. -/
theorem witness_ConfigureWallClearsTheMap :
    Accepted (given [8, 1]) [8, 1] ∧ Accepted (given [512, 48]) [512, 48] ∧ Accepted (given [0, 1]) [0, 1] ∧
    Accepted (given [8, 49]) [8, 49] ∧ (∀ t, ((given [8, 1]).tile t).state = .disabled) ∧
    Accepted (wallGiven up [8, 1]) [8, 1] ∧ ((wallGiven up [8, 1]).tile 0).state ≠ .disabled := by
  unfold Accepted; decide

theorem witness_MapCommandsTakeTheNewMap :
    (Accepted (wallGiven up [3, 1, 63]) [3, 1, 63] ∧ (wallGiven up [3, 1, 63]).map.bandCount = 4 ∧
      Accepted (wallGiven up [4, 1, 63]) [4, 1, 63] ∧ Accepted (wallGiven up [3, 0, 64]) [3, 0, 64] ∧
      Accepted (wallGiven up [3, 1, 64]) [3, 1, 64]) ∧
    (Accepted (wallGiven up [0, 4, 63, 1, 0]) [0, 4, 63, 1, 0] ∧ Accepted (wallGiven up [0, 5, 0, 64, 0]) [0, 5, 0, 64, 0] ∧
      Accepted (wallGiven up [0, 4, 0, 64, 64]) [0, 4, 0, 64, 64]) ∧
    (Accepted (wallGiven up [63]) [63] ∧ Accepted (wallGiven up [0xFFC1]) [0xFFC1] ∧ Accepted (wallGiven up [64]) [64] ∧
      1 ≤ (wallGiven up [63]).map.ringCount ∧ (wallGiven up [63]).map.rollCount = 0 ∧
      { ready.map with rollCount := 4 }.rollCount ≠ 0) ∧
    ((63 : Word).toInt = 63 ∧ (0xFFC1 : Word).toInt = -63 ∧ (64 : Word).toInt = 64) := by
  unfold Accepted; decide

theorem witness_MapReadReturnsFiveWords :
    Accepted (wallGiven up [3]) [3] ∧ (3 : WallBand).val = (3 : Word).toNat ∧ (3 : Word).toNat < (wallGiven up [3]).map.bandCount ∧
    Accepted (wallGiven up [4]) [4] ∧ (wallGiven up [4]).map.bandCount ≤ (4 : Word).toNat ∧
    busy.nReset = true ∧ busy.cu.busy = true := by
  unfold Accepted; decide

/-- A sweep with a wall band after the one it passes, and at its last one. -/
theorem witness_SweepPassReachesActiveTiles :
    ∀ rest ∈ [[(1 : WallBand)], []],
      let s := { wall up with map := { (wall up).map with sweep := some ⟨[0, 1], 0 :: rest⟩ } }
      s.nReset = true ∧ s.map.sweep = some ⟨[0, 1], 0 :: rest⟩ := by decide

/-- The roll region's first and last wall band, and the one after it. -/
theorem witness_ResolutionFollowsTheRing :
    let m : BandMap := { ready.map with
      width := 512, bandCount := 48, rollFirst := 0, rollCount := 47, ringBase := 0, ringCount := 64, origin := 63 }
    MapSound m ∧ m.rollCount ≠ 0 ∧
    (∀ w ∈ [(0 : WallBand), 46], w.val < m.bandCount ∧ m.rollFirst ≤ w.val ∧ w.val < m.rollFirst + m.rollCount) ∧
    ((47 : WallBand).val < m.bandCount ∧ ¬ (47 : WallBand).val < m.rollFirst + m.rollCount) := by
  unfold MapSound; decide

theorem witness_TileSetWritesThePlacement :
    Accepted (wallGiven up [15, 3, 3, 504, 8, 47, 1]) [15, 3, 3, 504, 8, 47, 1] ∧ (15 : TileIdx).val = (15 : Word).toNat ∧
    ((wallGiven up [15, 3, 3, 504, 8, 47, 1]).tile 15).state = .disabled ∧
    Accepted (wallGiven up [0, 3, 3, 504, 8, 47, 1]) [0, 3, 3, 504, 8, 47, 1] ∧
    ((wallGiven up [0, 3, 3, 504, 8, 47, 1]).tile 0).state ≠ .disabled ∧
    Accepted (wallGiven up [16, 3, 3, 504, 8, 47, 1]) [16, 3, 3, 504, 8, 47, 1] := by
  unfold Accepted; decide

/-- A wall with tile 1 DISABLED at link k, position p, columns 0 to w - 1 and wall bands 0 to 3. -/
def placed (k : Link) (p : Position) (w : Nat) : State :=
  { wallGiven up [1] with tiles := (wall up).tiles.set 1 ⟨.disabled, k, p, 0, w, 0, 4⟩ }

/-- RANGE, STATE, GEOMETRY, CONFLICT, WAITING for an absent position, WAITING for a link that is not UP, and ACTIVE. -/
theorem witness_TileEnableChoosesTheState :
    (Accepted (given [16]) [16] ∧ 15 < (16 : Word).toNat) ∧
    (Accepted (wallGiven up [0]) [0] ∧ ((wallGiven up [0]).tile 0).state ≠ .disabled) ∧
    (Accepted (placed 0 1 72) [1] ∧ (placed 0 1 72).map.width < 72) ∧
    (Accepted (placed 0 0 64) [1] ∧ ((placed 0 0 64).tile 0).state ≠ .disabled ∧ ((placed 0 0 64).tile 0).link = 0 ∧
      ((placed 0 0 64).tile 0).position = 0) ∧
    (Accepted (placed 0 1 64) [1] ∧ (((placed 0 1 64).link 0).position 1).present = false) ∧
    (let s := { placed 0 0 64 with tiles := ready.tiles.set 1 ⟨.disabled, 0, 0, 0, 64, 0, 4⟩ }
     Accepted s [1] ∧ (s.link 0).state = .up ∧ ((s.link 0).position 0).present = true ∧ (∀ u, (s.tile u).state = .disabled)) := by
  unfold Accepted; decide

theorem witness_TileDisableGivesUpItsWork :
    (Accepted (given [16]) [16] ∧ 15 < (16 : Word).toNat) ∧
    (Accepted (given [15]) [15] ∧ (15 : Word).toNat = (15 : TileIdx).val ∧ ((given [15]).tile 15).state = .disabled) ∧
    (let s := { given [0] with tiles := ready.tiles.set 0 ⟨.waiting, 0, 0, 0, 64, 0, 4⟩ }
     Accepted s [0] ∧ (s.tile 0).state = .waiting) ∧
    (∀ p ∈ [collecting, showing],
      let s := { withPresent (wallGiven { up with queue := [.query 0 17] } [0]) p with
        query := ⟨true, 0, 17, .none, 0, 0, 0, 0, some 10⟩ }
      Accepted s [0] ∧ (s.tile 0).state = .active ∧ (s.link 0).queue.length ≤ 32 ∧
      TileSet.has s.present.participants 0 = true ∧ TileSet.has s.present.shown 0 = false ∧ s.query.waiting = true ∧
      s.query.tile = 0) ∧
    (TileSet.has (wallGiven up [0]).present.participants 0 = false ∧ (wallGiven up [0]).query.waiting = false) := by
  unfold Accepted; decide

/-- Departures of tile 0 that end a COLLECTING and a SHOWING present and a query, and ones that end none: an idle present, and a
SHOWING one with the tile in its shown set; of two tiles, the one of the removed SHOW entry is named. -/
theorem witness_departures :
    presentEnder collecting [0] [] = some 0 ∧ presentEnder showing [0] [] = some 0 ∧
    presentEnder { collecting with state := .idle } [0] [] = none ∧ presentEnder { showing with shown := 1 } [0] [] = none ∧
    presentEnder { showing with participants := 3 } [0, 1] [.cell 0 0, .showTile 0 11, .showTile 1 12] = some 1 ∧
    queryLost ⟨true, 0, 17, .none, 0, 0, 0, 0, some 10⟩ [0] [] = true ∧
    queryLost ⟨true, 4, 17, .none, 0, 0, 0, 0, some 10⟩ [0] [.query 0 17] = false := by decide

theorem witness_ReadCommandsReturnTheRecords :
    Accepted (given [15]) [15] ∧ Accepted (given [16]) [16] ∧ Accepted ready [] ∧
    Accepted (given [15, 47]) [15, 47] ∧ Accepted (given [16, 47]) [16, 47] ∧ Accepted (given [15, 48]) [15, 48] := by
  unfold Accepted; decide

/-- The largest values the fields hold. -/
theorem witness_WordsHoldTheirFields :
    let r : TileRecord := ⟨.active, 3, 3, 504, 512, 47, 48⟩
    let p : PositionRecord := ⟨true, 15, 15, 15, 255, 15, 255, true⟩
    r.firstColumn ≤ 504 ∧ r.width ≤ 512 ∧ r.firstBand ≤ 47 ∧ r.bandCount ≤ 48 ∧ p.capacity ≤ 15 ∧ p.credit ≤ 15 ∧
    p.outstanding ≤ 15 ∧ ({ collecting with remaining := 768 } : PresentRecord).remaining ≤ 768 := by decide

/-- Full FIFOs and a full Attention Queue, a read-out, a record and none; the reads with an effect, with PIXEL DATA closed and free. -/
theorem witness_readLocation :
    (List.replicate 8 (1 : Word)).length ≤ 8 ∧ (List.replicate 16 (⟨.linkUp 1, false⟩ : AttentionRecord)).length ≤ 16 ∧
    ready.cu.results = [] ∧ ready.attention.readOut = [] ∧ ready.attention.records = [] ∧
    (∀ k : Link, ∃ a : Fin 32, a.val = 0x11 + k.val) ∧ (0x15 : Fin 32) ≤ 0x1F ∧
    hostRead 0x08 = some .pixelRead ∧ ready.nReset = true ∧ WindowFree ready ∧ State.reset.nReset = true ∧
    State.reset.notReady = true := by
  unfold WindowFree; decide

/-- RANGE, STATE, BUSY for a waiting query, BUSY for a full queue, and a query queued as the 32nd entry. -/
theorem witness_QueryTileQueuesAQuery :
    (Accepted (given [16]) [16] ∧ 15 < (16 : Word).toNat) ∧
    (Accepted (given [0]) [0] ∧ ((given [0]).tile 0).state ≠ .active) ∧
    (let s := { wallGiven up [0] with query := ⟨true, 0, 17, .none, 0, 0, 0, 0, some 10⟩ }
     Accepted s [0] ∧ (s.tile 0).state = .active ∧ s.query.waiting = true) ∧
    (let s := wallGiven { up with queue := List.replicate 32 (.showTile 0 1) } [0]
     Accepted s [0] ∧ (s.tile 0).state = .active ∧ 32 ≤ (s.link 0).queue.length) ∧
    (let s := wallGiven { up with queue := List.replicate 31 (.showTile 0 1) } [0]
     Accepted s [0] ∧ (s.tile 0).state = .active ∧ s.query.waiting = false ∧ ¬ 32 ≤ (s.link 0).queue.length) := by
  unfold Accepted; decide

/-- A stopped Walker; a running one that queues at (0, 0) with 31 entries queued, and at (15, 47) moves on to (0, 0). -/
theorem witness_WalkerQueuesStaleCells :
    (let s := { ready with walker := ⟨.manual, 0, 0⟩ }
     s.nReset = true ∧ ¬(s.walker.mode = .auto ∨ s.present.state = .collecting)) ∧
    (let s := wall { up with queue := List.replicate 31 (.showTile 0 1) }
     s.nReset = true ∧ s.walker.mode = .auto ∧ (s.tile 0).hasBand 0 = true ∧ (s.cell 0 0).state = .stale ∧
     (s.tile 0).state = .active ∧ (s.link 0).queue.length < 32 ∧ s.present.state ≠ .collecting) ∧
    (let s := { wall up with walker := ⟨.auto, 15, 47⟩ }
     s.walker.mode = .auto ∧ (s.tile 15).hasBand 47 = false) ∧
    (Accepted (given [1]) [1] ∧ Accepted (given [2]) [2]) := by
  unfold Accepted; decide

theorem witness_SetTimerWritesOneSetting :
    ∀ ps ∈ [[(0 : Word), 255], [1, 7], [1, 8], [4, 15], [4, 16], [5, 0], [6, 255], [6, 0], [7, 1]], Accepted (given ps) ps := by
  unfold Accepted; decide

theorem witness_LinkCommandsOutsideUp :
    (Accepted (given [4]) [4] ∧ 3 < (4 : Word).toNat) ∧
    (Accepted (given [3]) [3] ∧ (3 : Link).val = (3 : Word).toNat ∧ ((given [3]).link 3).state = .off) ∧
    (∀ st ∈ [LinkState.training, .fault],
      let s := wallGiven { LinkSlice.hardReset with state := st } [0]
      Accepted s [0] ∧ (s.link 0).state = st) := by
  unfold Accepted; decide

theorem witness_LinkClearFlagsClearsThree :
    Accepted (given [3]) [3] ∧ (3 : Link).val = (3 : Word).toNat ∧ Accepted (given [4]) [4] ∧ 3 < (4 : Word).toNat := by
  unfold Accepted; decide

theorem witness_LossEndsTheUpPeriod :
    ((wall up).nReset = true ∧ ((wall up).link 0).state = .up ∧ ((wall up).link 0).silenceTimer ≠ none ∧
      HelloFit 4 (Vector.replicate 4 1) ∧ HelloFit 1 #v[1, 0, 0, 0]) ∧
    (Accepted (wallGiven up [0]) [0] ∧ (0 : Link).val = (0 : Word).toNat ∧ ((wallGiven up [0]).link 0).state = .up) := by
  unfold Accepted HelloFit; decide

theorem witness_TrainingTimersAndTransmitter :
    (∀ n ∈ [1, 2],
      let s := wall { LinkSlice.hardReset with
        state := .training, attemptCount := n, attemptTimer := some 50, helloInterval := true, tx := ⟨some (.hello false), true⟩ }
      s.nReset = true ∧ (s.link 0).helloInterval = true ∧ (s.link 0).tx.sending = some (.hello false) ∧
      (s.link 0).attemptTimer ≠ none ∧ s.timers.attemptLimit = 3 ∧ (s.link 0).attemptCount = n) := by decide

theorem witness_HelloBringsTheLinkUp :
    (∀ st ∈ [LinkState.off, .training, .up, .fault],
      let s := wall { LinkSlice.hardReset with state := st }
      s.nReset = true ∧ (s.link 0).state = st) ∧
    HelloFit 4 (Vector.replicate 4 1) ∧ HelloFit 1 #v[1, 0, 0, 0] ∧
    ¬ HelloFit 0 (Vector.replicate 4 1) ∧ ¬ HelloFit 5 (Vector.replicate 4 1) ∧ ¬ HelloFit 2 #v[1, 0, 1, 1] := by
  unfold HelloFit; decide

/-- The oldest acknowledgeable number, the newest, and a NAK of each record below the limit and at it; a replay in progress whose
point an ACK of the first record releases, with its re-read. -/
theorem witness_AcknowledgementsReleaseHeldRecords :
    (∀ n ∈ [3, 4],
      let s := wall { up with replayCount := n, replayPoint := some 0, engine := .reRead 0 }
      s.nReset = true ∧ (s.link 0).state = .up ∧ HoldConsecutive (s.link 0) ∧ (s.link 0).hold.length ≤ 16 ∧
      0 ≤ (s.link 0).hold.length ∧ 2 ≤ (s.link 0).hold.length ∧ 1 < (s.link 0).hold.length ∧
      s.timers.replayLimit = 4 ∧ (s.link 0).replayCount = n ∧ 0 < s.timers.replayLimit ∧
      replayPointAfter (s.link 0) 0 = some 0 ∧ replayPointAfter (s.link 0) 1 = some 1 ∧ replayPointAfter (s.link 0) 2 = none ∧
      engineAfter s 0 1 = .idle) := by
  unfold HoldConsecutive; decide

/-- `up` with one SHOW record of tile 0, and `up` as the cell (0, 0) is INFLIGHT and marked. -/
theorem witness_ReleasesReportToThePresent :
    (let s := withPresent (wall { up with hold := [⟨1, 0, 0, false, .showTile 12⟩] }) showing
     s.nReset = true ∧ (s.link 0).state = .up ∧ HoldConsecutive (s.link 0) ∧
     (s.link 0).hold = [⟨1, 0, 0, false, .showTile 12⟩] ∧ s.present.state = .showing ∧ (12 : Byte) = s.present.number ∧
     TileSet.has s.present.participants 0 = true ∧ TileSet.add s.present.shown 0 = s.present.participants ∧
     TileSet.add 0 0 ≠ (3 : TileSet)) ∧
    (∀ n ∈ [1, 2],
      let s := State.setCell (withPresent (wall up) { collecting with remaining := n }) 0 0 ⟨.inflight, true⟩
      s.nReset = true ∧ (s.link 0).state = .up ∧ HoldConsecutive (s.link 0) ∧
      (s.link 0).hold = ⟨0, 0, 0, false, .blank 0⟩ :: [⟨1, 0, 0, false, .blank 1⟩] ∧ bodyBand (.blank 0) = some 0 ∧
      s.cell 0 0 = ⟨.inflight, true⟩ ∧ s.present.state = .collecting ∧ s.present.remaining = n) := by
  unfold HoldConsecutive; decide

/-- With two records held and next number 2, an ACK 2 and a NAK 3 are stray. -/
theorem witness_StrayAcknowledgementsSetTheFlag :
    let s := wall up
    s.nReset = true ∧ (s.link 0).state = .up ∧
    (∀ i, i ≤ (s.link 0).hold.length → (2 : SeqNo) ≠ (s.link 0).nextSeq - 1 - BitVec.ofNat 12 i) ∧
    (∀ i, i ≤ (s.link 0).hold.length → (3 : SeqNo) ≠ (s.link 0).nextSeq - BitVec.ofNat 12 i) := by
  refine ⟨rfl, rfl, ?_, ?_⟩ <;> intro i hi <;> have : i ≤ 2 := hi <;> interval_cases i <;> decide

/-- Position 1 absent; position 0 with another restart count, with a difference of 2 (all that is outstanding) and of 3. -/
theorem witness_TileStatusReturnsCredit :
    let s := wall up
    s.nReset = true ∧ (s.link 0).state = .up ∧ ((s.link 0).position 1).present = false ∧
    ((s.link 0).position 0).present = true ∧ (7 : Nibble) ≠ ((s.link 0).position 0).restart ∧
    (6 : Nibble) = ((s.link 0).position 0).restart ∧
    ((2 : Byte) - ((s.link 0).position 0).lastFreed).toNat ≤ ((s.link 0).position 0).outstanding ∧
    ((s.link 0).position 0).outstanding < ((3 : Byte) - ((s.link 0).position 0).lastFreed).toNat ∧
    ((s.tile 0).state ≠ .disabled ∧ (s.tile 0).link = 0 ∧ (s.tile 0).position = 0) ∧
    (∀ t, (s.tile t).state ≠ .disabled → (s.tile t).link = 0 → (s.tile t).position ≠ 1) := by decide

theorem witness_ReportsAndTimeoutEndTheQuery :
    let s := { wall up with query := ⟨true, 0, 255, .none, 0, 0, 0, 0, some 10⟩ }
    s.nReset = true ∧ (s.link 0).state = .up ∧ s.query.waiting = true ∧ (s.tile s.query.tile).link = 0 ∧
    (s.tile s.query.tile).position = 0 ∧ s.query.tag = 255 ∧ (0 : Byte) ≠ s.query.tag ∧ s.query.timeout ≠ none := by decide

/-- Every link state; a receiver with no notice in progress and with one; a whole IDLE, one cut short, and an unknown kind. -/
theorem witness_NoticesAreRoutedByTheLinkState :
    (∀ st ∈ [LinkState.off, .training, .up, .fault],
      let s := wall { LinkSlice.hardReset with state := st }
      s.nReset = true ∧ (s.link 0).state = st ∧ (s.link 0).receiving = none) ∧
    (let s := wall { up with receiving := some [0x86, 0] }
     (s.link 0).receiving = some [0x86, 0] ∧ ¬ LengthOfKind [0x86, 0]) ∧
    LengthOfKind [0x86, 0, 0] ∧ LengthOfKind (0x85 :: List.replicate 10 0) ∧
    (∀ bytes ∈ [[0x86, 0], [0x87, 0, 0, 0]], ∀ n : Fin 5, ¬ LengthOfKind (bytes.take n.val)) := by
  unfold LengthOfKind; decide

/-- The replay count below the limit and at it; a BLANK and a BAND at the replay point; a re-read, and one given up. -/
theorem witness_ReplayRetransmitsHeldRecords :
    (∀ n ∈ [3, 4],
      let s := wall { up with replayCount := n }
      s.nReset = true ∧ (s.link 0).state = .up ∧ (s.link 0).replayTimer ≠ none ∧
      (s.link 0).hold = ⟨0, 0, 0, false, .blank 0⟩ :: [⟨1, 0, 0, false, .blank 1⟩] ∧ s.timers.replayLimit = 4 ∧
      (s.link 0).replayCount = n) ∧
    (∀ body ∈ [HoldBody.blank 0, .band 0 0 0 64],
      let s := wall { up with replayPoint := some 0, hold := [⟨0, 0, 0, false, body⟩] }
      s.nReset = true ∧ (s.link 0).engine = .idle ∧ (s.link 0).tx.sending = none ∧ (s.link 0).replayPoint = some 0 ∧
      (s.link 0).heldRecord 0 = some ⟨0, 0, 0, false, body⟩) ∧
    (let s := capturing { up with engine := .reRead 0, hold := [⟨0, 0, 0, false, .band 0 0 0 64⟩] }
     s.nReset = true ∧ s.arbiter.holder = some (.capture 0) ∧ (s.link 0).engine = .reRead 0 ∧
     (s.link 0).heldRecord 0 = some ⟨0, 0, 0, false, .band 0 0 0 64⟩) ∧
    (let s := capturing { up with engine := .givenUpReRead }
     s.nReset = true ∧ s.arbiter.holder = some (.capture 0) ∧ (s.link 0).engine = .givenUpReRead) := by decide

/-- A queue with an eligible entry behind one without credit, and one with none eligible. -/
theorem witness_OldestEligibleEntryIsSelected :
    (wall { up with queue := [.cell 0 1] }).eligible 0 = some (.cell 0 1) ∧ (wall up).eligible 0 = none ∧
    (wall { up with queue := [.cell 0 1], positions := Vector.replicate 4 .hardReset }).eligible 0 = none := by decide

/-- Every kind of entry at an engine that may select, a wall band on BLANK and one on a store band, and 16 records held. -/
theorem witness_DispatchSelectionCompletesOrAsks :
    (∀ e ∈ [Entry.showTile 0 12, .query 0 17, .cell 0 2],
      let s := wall { up with queue := [e] }
      s.nReset = true ∧ MaySelect (s.link 0) ∧ s.eligible 0 = some e ∧ s.map.resolve 2 = none) ∧
    (let s := { wall { up with queue := [.cell 0 2] } with map := { ready.map with entries := ready.map.entries.set 2 (some 63) } }
     s.nReset = true ∧ MaySelect (s.link 0) ∧ s.eligible 0 = some (.cell 0 2) ∧ s.map.resolve 2 = some 63) ∧
    (let s := wall { up with hold := List.replicate 16 ⟨0, 0, 0, false, .query 1⟩ }
     s.nReset = true ∧ ¬ MaySelect (s.link 0)) := by
  unfold MaySelect; decide

/-- A dispatch of wall band 2 read from store band 20 while the wall band shows store band 20, store band 21, and BLANK. -/
theorem witness_CaptureGrantEndCompletesOrAsksAgain :
    (∀ entry ∈ [some (20 : StoreBand), some 21, none],
      let s := { capturing { up with queue := [.cell 0 2], engine := .dispatch 0 2 20 } with
        map := { ready.map with entries := ready.map.entries.set 2 entry } }
      s.nReset = true ∧ s.arbiter.holder = some (.capture 0) ∧ (s.link 0).engine = .dispatch 0 2 20 ∧
      s.map.resolve 2 = entry) ∧
    (let s := capturing { up with engine := .abandonedDispatch }
     s.nReset = true ∧ s.arbiter.holder = some (.capture 0) ∧ (s.link 0).engine = .abandonedDispatch) := by decide

/-- A present already running, no ACTIVE tile, one with STALE cells, and one whose every cell is CLEAN. -/
theorem witness_PresentCutsAndCollects :
    (let s := withPresent (wall up) showing
     Accepted s [] ∧ s.present.state ≠ .idle) ∧
    (Accepted ready [] ∧ ready.present.state = .idle ∧ ∀ u, (ready.tile u).state ≠ .active) ∧
    (let s := wall up
     Accepted s [] ∧ s.present.state = .idle ∧ (s.tile 0).state = .active ∧ (s.tile 0).hasBand 0 = true ∧
     (s.cell 0 0).state ≠ .clean) ∧
    (let s := { wall up with tiles := ready.tiles.set 0 ⟨.active, 0, 0, 0, 64, 0, 0⟩ }
     Accepted s [] ∧ s.present.state = .idle ∧ (s.tile 0).state = .active ∧
     ∀ u, (s.tile u).state = .active → ∀ w, (s.tile u).hasBand w = false) := by
  unfold Accepted; decide

theorem witness_PresentsEndByCancelAndDeadline :
    (Accepted ready [] ∧ ready.present.state = .idle) ∧
    (∀ p ∈ [collecting, showing],
      let s := withPresent (wall up) p
      Accepted s [] ∧ s.nReset = true ∧ s.present.state = p.state ∧ s.present.deadline ≠ none) := by
  unfold Accepted; decide

set_option maxRecDepth 20000 in
/-- A unit with a bad check; the field values of an ACK and of a HELLO; a payload of one segment of eight columns. -/
theorem witness_NoticesAreReadFromTheirBytes :
    goodCheck [0x86, 0, 0] = false ∧ ¬ LengthOfKind [0x86] ∧ ¬ LengthOfKind [0x87, 0, 0] ∧
    HelloFit 4 #v[1, 2, 3, 4] ∧ ¬ HelloFit 4 #v[1, 2, 3, 0] ∧ 2 < (Frame.hello true).bytes.length ∧
    (511 : Coord).val = 504 + 7 ∧ (511 : Coord).val = 8 * (63 : StoreBand).val + 7 ∧ (4095 : SeqNo).toNat = (256 * (0xFF : Byte).toNat + (0xFF : Byte).toNat) % 4096 ∧
    (3 : Position).val = (0xFF : Byte).toNat % 4 ∧ (4 : BitVec 3).toNat = (0x84 : Byte).toNat % 8 ∧
    (#v[1, 2, 3, 4] : Vector Nibble 4).toList =
      [(0x15 : Byte).extractLsb' 4 4, (0x26 : Byte).extractLsb' 4 4, (0x37 : Byte).extractLsb' 4 4, (0x48 : Byte).extractLsb' 4 4] ∧
    (#v[5, 6, 7, 8] : Vector Nibble 4).toList =
      [(0x15 : Byte).extractLsb' 0 4, (0x26 : Byte).extractLsb' 0 4, (0x37 : Byte).extractLsb' 0 4, (0x48 : Byte).extractLsb' 0 4] ∧
    (List.replicate 64 (0 : Word)).length = 8 * 8 := by
  unfold LengthOfKind HelloFit; decide

/-! ## A state that meets every invariant, with an ACK for it to take -/

/-- Link 0 in UP with two live BLANK records of tile 0, whose cells are INFLIGHT, and an ACK of the first waiting. -/
def sound : State :=
  { ((wall up).setCell 0 0 ⟨.inflight, false⟩).setCell 0 1 ⟨.inflight, false⟩ with pending := [.ackNotice 0 0] }

/-- Its step answers a next state. -/
theorem sound_steps : ∃ t, step sound = .next t := ⟨_, rfl⟩

theorem witness_StepKeepsStoreFormAndDepths : StoreForm sound ∧ FifosBounded sound := by
  unfold StoreForm FifosBounded; decide

theorem witness_StepKeepsTheWallSound : WallSound sound := by
  unfold WallSound MapSound TilesPlaced; decide

theorem witness_StepKeepsTheWindowSound : WindowSound sound := by
  unfold WindowSound PointerInWindow OneCommand RectOrdered Inside
  refine ⟨by decide, by decide, ?_, by decide, by decide, by decide, by decide⟩
  intro h hh
  have none : sound.window.held = [] := by decide
  rw [none] at hh
  cases hh

theorem witness_StepKeepsTheArbiterSound : ArbiterSound sound := by
  unfold ArbiterSound; decide

/-- Every link of `sound` is as Table 7-1, R77, R80 and R84 say. -/
theorem sound_links : ∀ k : Link, LinkSound (sound.link k) := by
  intro k
  have idle : ∀ j : Link, (sound.link j).engine = .idle ∧ (sound.link j).replayPoint = none := by decide
  unfold LinkSound LinkIdle PositionAbsent HoldConsecutive
  refine ⟨?_, ?_, ?_, ?_, ?_, ?_, ?_, ?_, ?_, ?_, ?_, ?_⟩
  · revert k; decide
  · revert k; decide
  · revert k; decide
  · revert k; decide
  · revert k; decide
  · revert k; decide
  · revert k; decide
  · intro e he
    have none : ∀ j : Link, (sound.link j).backlog = [] := by decide
    rw [none k] at he
    cases he
  · revert k; decide
  · revert k; decide
  · intro q hq
    rw [(idle k).2] at hq
    cases hq
  · intro t w b h
    rw [(idle k).1] at h
    cases h

theorem witness_StepKeepsTheLinksSound : LinksSound sound := by
  refine ⟨sound_links, ?_, ?_, ?_⟩
  · unfold TileStatesSound; decide
  · unfold EntriesActive; decide
  · unfold ParticipantsActive; decide

theorem witness_StepKeepsTheCreditLaw : CreditSound sound := by
  refine ⟨by unfold CreditLaw; decide, ?_⟩
  intro k t w b h
  have idle : ∀ j : Link, (sound.link j).engine = .idle := by decide
  rw [idle k] at h
  cases h

/-- The cells of `sound`: two INFLIGHT, the others STALE, and no mark. -/
theorem sound_cells (t : TileIdx) (w : WallBand) :
    sound.cell t w = if t = 0 ∧ w.val ≤ 1 then ⟨.inflight, false⟩ else ⟨.stale, false⟩ := by
  revert t w; decide

theorem witness_StepKeepsTheCellsSound : CellsSound sound := by
  refine ⟨?_, ?_, ?_, ?_⟩
  · unfold OtherCellsStale; decide
  · unfold OneWorkPerCell; decide
  · unfold LiveRecordsPlaced; decide
  · intro k t w h
    have none : ∀ j : Link, (sound.link j).queue = [] := by decide
    rw [none k] at h
    cases h

theorem witness_StepKeepsThePresentSound : PresentSound sound := by
  unfold PresentSound; decide

end Sys2Proof.Tests
end

/-! ## The Store Arbiter as a table of requesters (R19, R20) -/

namespace Sys2Proof.Machine

open Sys2Proof.Safety

/-- Whether a requester waits for the store. -/
def Arbiter.waits (a : Arbiter) : Requester → Bool
  | .window => a.windowWaiting
  | .capture k => a.captureWaiting[k]

theorem Arbiter.nobody_waits_iff (a : Arbiter) :
    (∀ r, a.waits r = false) ↔ a.windowWaiting = false ∧ a.nextCapture = none := by
  rw [a.nextCapture_eq_none]
  constructor
  · exact fun h => ⟨h .window, fun k => h (.capture k)⟩
  · rintro ⟨hw, hc⟩ (_ | k)
    · exact hw
    · exact hc k

@[simp] theorem Arbiter.holder_grant (a : Arbiter) (r : Requester) : (a.grant r).holder = some r := by
  cases r <;> rfl

@[simp] theorem Arbiter.holder_await (a : Arbiter) (r : Requester) : (a.await r).holder = a.holder := by
  cases r <;> rfl

theorem Arbiter.waits_holder (a : Arbiter) (h : Option Requester) (q : Requester) :
    ({ a with holder := h } : Arbiter).waits q = a.waits q := by
  cases q <;> rfl

theorem getElem_set_link {α : Type} (v : Vector α 4) (k j : Link) (x : α) :
    (v.set k.val x)[j.val] = if j = k then x else v[j.val] := by
  simp only [Vector.getElem_set, Fin.val_inj, eq_comm]

/-- A grant ends the requester's waiting and nobody else's. -/
theorem Arbiter.waits_grant (a : Arbiter) (r q : Requester) :
    (a.grant r).waits q = if q = r then false else a.waits q := by
  cases r <;> cases q <;> simp [Arbiter.grant, Arbiter.waits, getElem_set_link]

/-- A request put among those waiting makes its requester wait and nobody else. -/
theorem Arbiter.waits_await (a : Arbiter) (r q : Requester) :
    (a.await r).waits q = if q = r then true else a.waits q := by
  cases r <;> cases q <;> simp [Arbiter.await, Arbiter.waits, getElem_set_link]

theorem Arbiter.waits_withdraw (a : Arbiter) (k : Link) (q : Requester) :
    (a.withdraw k).waits q = if q = .capture k then false else a.waits q := by
  cases q <;> simp [Arbiter.withdraw, Arbiter.waits, getElem_set_link]

/-- The end of a grant gives the store to somebody who waits, or to nobody when nobody waits. -/
theorem Arbiter.release_next (a : Arbiter) :
    (∃ r, a.waits r = true ∧ a.release = a.grant r) ∨
    ((∀ r, a.waits r = false) ∧ a.release = { a with holder := none }) := by
  rcases a.release_cases with ⟨hw, h⟩ | ⟨k, hk, h⟩ | ⟨hw, hn, h⟩
  · exact .inl ⟨.window, hw, h⟩
  · exact .inl ⟨.capture k, a.waiting_of_nextCapture k hk, h⟩
  · exact .inr ⟨a.nobody_waits_iff.mpr ⟨hw, hn⟩, h⟩

/-- A request is granted at an idle store that nobody waits for, and waits otherwise. -/
theorem Arbiter.request_next (a : Arbiter) (r : Requester) :
    (a.holder = none ∧ (∀ q, a.waits q = false) ∧ a.request r = a.grant r) ∨
    (¬(a.holder = none ∧ ∀ q, a.waits q = false) ∧ a.request r = a.await r) := by
  rw [a.nobody_waits_iff]
  rcases a.request_cases r with ⟨h, hw, hn, e⟩ | ⟨h, e⟩
  · exact .inl ⟨h, ⟨hw, hn⟩, e⟩
  · exact .inr ⟨h, e⟩

/-- R19 for any account `active` of the requesters at work: each has one request, waiting or granted, exactly while it is at work,
and an idle store has nobody waiting. -/
structure Arbiter.Serves (a : Arbiter) (active : Requester → Prop) : Prop where
  once : ∀ r, a.holder = some r → a.waits r = false
  active_iff : ∀ r, active r ↔ a.holder = some r ∨ a.waits r = true
  idle : a.holder = none → ∀ r, a.waits r = false

namespace Arbiter.Serves

variable {a : Arbiter} {active active' : Requester → Prop} {r : Requester}

theorem congr (h : a.Serves active) (e : ∀ q, active' q ↔ active q) : a.Serves active' :=
  ⟨h.once, fun q => (e q).trans (h.active_iff q), h.idle⟩

/-- Who is not at work holds nothing and waits for nothing. -/
theorem absent (h : a.Serves active) (hr : ¬ active r) : a.holder ≠ some r ∧ a.waits r = false := by
  simpa [h.active_iff r] using hr

/-- A request by a requester that was not at work. -/
theorem request (h : a.Serves active) (hr : ¬ active r) : (a.request r).Serves fun q => q = r ∨ active q := by
  obtain ⟨notHolder, notWaiting⟩ := h.absent hr
  rcases a.request_next r with ⟨free, nobody, e⟩ | ⟨taken, e⟩
  · refine ⟨?_, ?_, ?_⟩ <;> simp [e, waits_grant, h.active_iff, free, nobody, eq_comm]
  · have held : a.holder ≠ none := fun g => taken ⟨g, h.idle g⟩
    refine ⟨fun q hq => ?_, fun q => ?_, fun g => ?_⟩
    · rw [e, holder_await] at hq
      have hne : q ≠ r := by rintro rfl; exact notHolder hq
      simp [e, waits_await, hne, h.once q hq]
    · by_cases hq : q = r
      · simp [e, waits_await, hq]
      · simp [e, waits_await, hq, h.active_iff q]
    · simp [e, held] at g

/-- The end of the grant of a requester that has nothing more to do. -/
theorem release (h : a.Serves active) (hr : a.holder = some r) : a.release.Serves fun q => q ≠ r ∧ active q := by
  have notWaiting := h.once r hr
  rcases a.release_next with ⟨n, hn, e⟩ | ⟨nobody, e⟩
  · have hne : n ≠ r := by rintro rfl; simp [notWaiting] at hn
    refine ⟨?_, fun q => ?_, ?_⟩
    · simp [e, waits_grant]
    · by_cases hq : q = n
      · subst hq; simp [e, h.active_iff, hne, hn]
      · by_cases hqr : q = r
        · subst hqr; simp [e, waits_grant, hne, notWaiting]
        · simp [e, waits_grant, h.active_iff, hr, hq, hqr, Ne.symm hq, Ne.symm hqr]
    · simp [e]
  · have nobody' : ∀ q, a.release.waits q = false := by simp [e, waits_holder, nobody]
    refine ⟨fun q _ => nobody' q, fun q => ?_, fun _ => nobody'⟩
    by_cases hq : q = r <;> simp [nobody', h.active_iff, nobody, hr, hq]
    · rw [e]; simp
    · rw [e]; simp [Ne.symm hq]

/-- The withdrawal of a waiting request. -/
theorem withdraw {k : Link} (h : a.Serves active) (hk : a.holder ≠ some (.capture k)) :
    (a.withdraw k).Serves fun q => q ≠ .capture k ∧ active q := by
  have holder : (a.withdraw k).holder = a.holder := rfl
  refine ⟨fun q hq => ?_, fun q => ?_, fun g q => ?_⟩
  · simp [waits_withdraw, h.once q hq]
  · by_cases hq : q = .capture k
    · subst hq; simp [waits_withdraw, holder, hk]
    · simp [waits_withdraw, holder, hq, h.active_iff]
  · simp [waits_withdraw, h.idle g]

end Arbiter.Serves

end Sys2Proof.Machine

/-! ## Requesters at work, and the three things that happen to a request (R19, R93, R125) -/

namespace Sys2Proof.Machine

open Sys2Proof.Safety

/-- Whether a requester has something to do with the store. -/
def State.working (s : State) : Requester → Prop
  | .window => s.window.op ≠ .idle
  | .capture k => (s.link k).engine ≠ .idle

/-- Whether a capture engine's work has been given up while it holds its grant (R93, R125). -/
def CaptureEngine.givenUp (e : CaptureEngine) : Prop := e = .abandonedDispatch ∨ e = .givenUpReRead

theorem arbiterSound_iff (s : State) :
    ArbiterSound s ↔ s.arbiter.Serves s.working ∧
      ∀ k, (s.link k).engine.givenUp → s.arbiter.holder = some (.capture k) := by
  constructor
  · rintro ⟨windowOnce, windowAtWork, captures, idle⟩
    refine ⟨⟨?_, ?_, ?_⟩, fun k => (captures k).2.2⟩
    · rintro (_ | k)
      · exact windowOnce
      · exact (captures k).1
    · rintro (_ | k)
      · exact windowAtWork
      · exact (captures k).2.1
    · rintro h (_ | k)
      · exact (idle h).1
      · exact (idle h).2 k
  · rintro ⟨⟨once, active, idle⟩, givenUp⟩
    exact ⟨once .window, active .window, fun k => ⟨once (.capture k), active (.capture k), givenUp k⟩,
      fun h => ⟨idle h .window, fun k => idle h (.capture k)⟩⟩

section Requests

variable {s t : State} {r : Requester}

/-- Nothing that the arbiter's rule speaks of has changed. -/
theorem arbiterSound_of_kept (hs : ArbiterSound s) (arbiter : t.arbiter = s.arbiter)
    (op : t.window.op = .idle ↔ s.window.op = .idle) (engines : ∀ k, (t.link k).engine = (s.link k).engine) :
    ArbiterSound t := by
  rw [arbiterSound_iff] at hs ⊢
  rw [arbiter]
  refine ⟨hs.1.congr fun q => ?_, fun k => engines k ▸ hs.2 k⟩
  cases q with
  | window => exact not_congr op
  | capture k => simp [State.working, engines k]

theorem arbiterSound_of_links (hs : ArbiterSound s) (arbiter : t.arbiter = s.arbiter)
    (op : t.window.op = .idle ↔ s.window.op = .idle) (links : t.links = s.links) : ArbiterSound t :=
  arbiterSound_of_kept hs arbiter op fun k => by simp only [State.link, links]

/-- A requester that had nothing to do with the store asks for it. -/
theorem arbiterSound_of_request (hs : ArbiterSound s) (before : ¬ s.working r) (after : t.working r)
    (others : ∀ q, q ≠ r → (t.working q ↔ s.working q)) (arbiter : t.arbiter = s.arbiter.request r)
    (givenUp : ∀ k, (t.link k).engine.givenUp → (s.link k).engine.givenUp) : ArbiterSound t := by
  rw [arbiterSound_iff] at hs ⊢
  obtain ⟨serves, runsOut⟩ := hs
  refine ⟨?_, fun k hk => ?_⟩
  · rw [arbiter]
    refine (serves.request before).congr fun q => ?_
    by_cases hq : q = r
    · simp [hq, after]
    · simp [hq, others q hq]
  · have holder := runsOut k (givenUp k hk)
    rw [arbiter]
    rcases s.arbiter.request_next r with ⟨free, -, -⟩ | ⟨-, e⟩
    · simp [free] at holder
    · simpa [e] using holder

/-- The grant of a requester ends that has nothing more to do with the store. -/
theorem arbiterSound_of_release (hs : ArbiterSound s) (holds : s.arbiter.holder = some r) (after : ¬ t.working r)
    (others : ∀ q, q ≠ r → (t.working q ↔ s.working q)) (arbiter : t.arbiter = s.arbiter.release)
    (givenUp : ∀ k, (t.link k).engine.givenUp → (s.link k).engine.givenUp) : ArbiterSound t := by
  rw [arbiterSound_iff] at hs ⊢
  obtain ⟨serves, runsOut⟩ := hs
  refine ⟨?_, fun k hk => ?_⟩
  · rw [arbiter]
    refine (serves.release holds).congr fun q => ?_
    by_cases hq : q = r
    · simp [hq, after]
    · simp [hq, others q hq]
  · obtain rfl : r = .capture k := by simpa [holds] using runsOut k (givenUp k hk)
    rcases hk with hk | hk <;> simp [State.working, hk] at after

/-- The grant of a requester ends that asks for the store again. -/
theorem arbiterSound_of_release_request (hs : ArbiterSound s) (holds : s.arbiter.holder = some r) (after : t.working r)
    (others : ∀ q, q ≠ r → (t.working q ↔ s.working q)) (arbiter : t.arbiter = s.arbiter.release.request r)
    (givenUp : ∀ k, (t.link k).engine.givenUp → (s.link k).engine.givenUp ∧ r ≠ .capture k) : ArbiterSound t := by
  rw [arbiterSound_iff] at hs ⊢
  obtain ⟨serves, runsOut⟩ := hs
  refine ⟨?_, fun k hk => ?_⟩
  · rw [arbiter]
    refine ((serves.release holds).request (by simp)).congr fun q => ?_
    by_cases hq : q = r
    · simp [hq, after]
    · simp [hq, others q hq]
  · obtain ⟨before, hne⟩ := givenUp k hk
    exact absurd (by simpa [holds] using runsOut k before) hne

end Requests

/-! ### A capture engine's requests -/

section Captures

variable {s t : State} {k : Link} {l : LinkSlice}

theorem link_of_links_set (links : t.links = s.links.set k l) (j : Link) : t.link j = if j = k then l else s.link j := by
  rw [← s.link_setLink k j l]
  simp only [State.link, State.setLink, links]

/-- Only link k differs: every other requester is at work as it was. -/
theorem working_of_links_set (links : t.links = s.links.set k l) (op : t.window.op = s.window.op) :
    ∀ q, q ≠ .capture k → (t.working q ↔ s.working q) := by
  rintro (_ | j) hq
  · simp [State.working, op]
  · have hne : j ≠ k := by rintro rfl; exact hq rfl
    simp [State.working, link_of_links_set links, hne]

theorem working_capture_iff (links : t.links = s.links.set k l) : t.working (.capture k) ↔ l.engine ≠ .idle := by
  simp [State.working, link_of_links_set links]

/-- An idle capture engine takes work and asks for the store. -/
theorem arbiterSound_of_capture_request (hs : ArbiterSound s) (before : (s.link k).engine = .idle)
    (links : t.links = s.links.set k l) (busy : l.engine ≠ .idle) (live : ¬ l.engine.givenUp)
    (op : t.window.op = s.window.op) (arbiter : t.arbiter = s.arbiter.request (.capture k)) : ArbiterSound t := by
  refine arbiterSound_of_request (r := .capture k) hs (by simp [State.working, before])
    ((working_capture_iff links).mpr busy) (working_of_links_set links op) arbiter fun j hj => ?_
  rw [link_of_links_set links] at hj
  split at hj
  · exact absurd hj live
  · exact hj

/-- A capture engine that holds the store ends its grant and its work. -/
theorem arbiterSound_of_capture_release (hs : ArbiterSound s) (holds : s.arbiter.holder = some (.capture k))
    (links : t.links = s.links.set k l) (idle : l.engine = .idle) (op : t.window.op = s.window.op)
    (arbiter : t.arbiter = s.arbiter.release) : ArbiterSound t := by
  refine arbiterSound_of_release hs holds (by simp [working_capture_iff links, idle]) (working_of_links_set links op)
    arbiter fun j hj => ?_
  rw [link_of_links_set links] at hj
  split at hj
  · simp [CaptureEngine.givenUp, idle] at hj
  · exact hj

/-- A capture engine that holds the store ends its grant and asks for the store again. -/
theorem arbiterSound_of_capture_release_request (hs : ArbiterSound s) (holds : s.arbiter.holder = some (.capture k))
    (links : t.links = s.links.set k l) (busy : l.engine ≠ .idle) (live : ¬ l.engine.givenUp)
    (op : t.window.op = s.window.op) (arbiter : t.arbiter = s.arbiter.release.request (.capture k)) : ArbiterSound t := by
  refine arbiterSound_of_release_request hs holds ((working_capture_iff links).mpr busy) (working_of_links_set links op)
    arbiter fun j hj => ?_
  rw [link_of_links_set links] at hj
  split at hj
  · exact absurd hj live
  · next hne => exact ⟨hj, by simpa using Ne.symm hne⟩

/-- A capture engine that holds the store goes on holding it, whatever it works for. -/
theorem arbiterSound_of_capture_kept (hs : ArbiterSound s) (holds : s.arbiter.holder = some (.capture k))
    (links : t.links = s.links.set k l) (busy : l.engine ≠ .idle) (op : t.window.op = s.window.op)
    (arbiter : t.arbiter = s.arbiter) : ArbiterSound t := by
  rw [arbiterSound_iff] at hs ⊢
  obtain ⟨serves, runsOut⟩ := hs
  rw [arbiter]
  refine ⟨serves.congr fun q => ?_, fun j hj => ?_⟩
  · by_cases hq : q = .capture k
    · subst hq
      exact iff_of_true ((working_capture_iff links).mpr busy) ((serves.active_iff _).mpr (.inl holds))
    · exact working_of_links_set links op q hq
  · rw [link_of_links_set links] at hj
    split at hj
    · next e => exact e ▸ holds
    · exact runsOut j hj

/-- The waiting request of a capture engine is withdrawn that has nothing more to do with the store. -/
theorem arbiterSound_of_withdraw (hs : ArbiterSound s) (holds : s.arbiter.holder ≠ some (.capture k))
    (links : t.links = s.links.set k l) (idle : l.engine = .idle) (op : t.window.op = s.window.op)
    (arbiter : t.arbiter = s.arbiter.withdraw k) : ArbiterSound t := by
  rw [arbiterSound_iff] at hs ⊢
  obtain ⟨serves, runsOut⟩ := hs
  rw [arbiter]
  refine ⟨(serves.withdraw holds).congr fun q => ?_, fun j hj => ?_⟩
  · by_cases hq : q = .capture k
    · simp [hq, working_capture_iff links, idle]
    · simp [hq, working_of_links_set links op q hq]
  · rw [link_of_links_set links] at hj
    split at hj
    · simp [CaptureEngine.givenUp, idle] at hj
    · exact runsOut j hj

end Captures

end Sys2Proof.Machine

/-! ## The link side: what its operations leave of the host side, and the arbiter's rule through them -/

namespace Sys2Proof.Machine

open Sys2Proof.Safety

/-- Work of the links, tiles, cells, Walker, presents, queries and attention records: nothing of the host's bus, the Command Unit,
the timers, the window side, the store and the Band Map changes, and the arbiter's rule is kept. -/
structure LinkSideWork (s t : State) : Prop where
  kept : t = { s with
    arbiter := t.arbiter, tiles := t.tiles, query := t.query, cells := t.cells, walker := t.walker, links := t.links
    present := t.present, attention := t.attention, freeCount := t.freeCount }
  arbiterSound : ArbiterSound s → ArbiterSound t

namespace LinkSideWork

variable {s t u : State}

theorem refl (s : State) : LinkSideWork s s := ⟨rfl, id⟩

theorem trans (h : LinkSideWork s t) (g : LinkSideWork t u) : LinkSideWork s u := by
  refine ⟨?_, g.arbiterSound ∘ h.arbiterSound⟩
  rw [g.kept, h.kept]

theorem foldl {α : Type} {f : State → α → State} (h : ∀ s a, LinkSideWork s (f s a)) (l : List α) (s : State) :
    LinkSideWork s (l.foldl f s) := by
  induction l generalizing s with
  | nil => exact refl s
  | cons a l ih => exact (h s a).trans (ih _)

/-- A change of one link that leaves its capture engine alone. -/
theorem setLink {k : Link} {l : LinkSlice} (h : l.engine = (s.link k).engine) : LinkSideWork s (s.setLink k l) := by
  refine ⟨rfl, fun hs => arbiterSound_of_kept hs rfl Iff.rfl fun j => ?_⟩
  rw [State.link_setLink]
  split
  · next e => rw [h, e]
  · rfl

theorem updateLink {k : Link} {f : LinkSlice → LinkSlice} (h : ∀ l, (f l).engine = l.engine) :
    LinkSideWork s (s.updateLink k f) := setLink (h _)

theorem setTile (s : State) (t : TileIdx) (r : TileRecord) : LinkSideWork s (s.setTile t r) := ⟨rfl, id⟩

theorem setCell (s : State) (t : TileIdx) (w : WallBand) (c : CellRecord) : LinkSideWork s (s.setCell t w c) := ⟨rfl, id⟩

theorem attend (s : State) (e : AttentionEvent) : LinkSideWork s (s.attend e) := ⟨rfl, id⟩

theorem setPresent (s : State) (p : PresentRecord) : LinkSideWork s { s with present := p } := ⟨rfl, id⟩

theorem setWalker (s : State) (w : Walker) : LinkSideWork s { s with walker := w } := ⟨rfl, id⟩

theorem setTiles (s : State) (x : Vector TileRecord 16) : LinkSideWork s { s with tiles := x } := ⟨rfl, id⟩

theorem setQuery (s : State) (q : QueryRecord) : LinkSideWork s { s with query := q } := ⟨rfl, id⟩

theorem setCells (s : State) (x : Vector (Vector CellRecord 48) 16) : LinkSideWork s { s with cells := x } := ⟨rfl, id⟩

end LinkSideWork

theorem LinkSlice.engine_handHello (l : LinkSlice) : l.handHello.engine = l.engine := by
  unfold LinkSlice.handHello; split <;> rfl

theorem LinkSlice.engine_endTransmission (l : LinkSlice) : l.endTransmission.engine = l.engine := by
  unfold LinkSlice.endTransmission
  split
  · rfl
  · split <;> rfl

theorem LinkSlice.engine_appendShow (l : LinkSlice) (e : Entry) : (l.appendShow e).engine = l.engine := by
  unfold LinkSlice.appendShow; split <;> rfl

theorem LinkSlice.engine_beginAttempt (l : LinkSlice) (time : Nat) : (l.beginAttempt time).engine = l.engine :=
  LinkSlice.engine_handHello _

theorem LinkSlice.engine_softReset (l : LinkSlice) (time : Nat) : (l.softReset time).engine = l.engine := by
  unfold LinkSlice.softReset
  cases hl : l.state <;> simp only [LinkSlice.allAbsent, LinkSlice.clearFlags, hl]
  all_goals exact LinkSlice.engine_beginAttempt _ _

namespace State

variable (s : State) (k : Link)

/-! ### Work given up (R93, R125) -/

/-- The giving up of a capture engine's work: a grant runs to its end, a waiting request is withdrawn. -/
theorem linkSideWork_stop {e : CaptureEngine} (he : e ≠ .idle) :
    LinkSideWork s (if s.holds (.capture k) then s.updateLink k fun l => { l with engine := e }
      else { s.updateLink k (fun l => { l with engine := .idle }) with arbiter := s.arbiter.withdraw k }) := by
  split
  · next holds =>
    exact ⟨rfl, fun hs => arbiterSound_of_capture_kept (k := k) hs (by simpa [State.holds] using holds) rfl he rfl rfl⟩
  · next holds =>
    exact ⟨rfl, fun hs => arbiterSound_of_withdraw (k := k) hs (by simpa [State.holds] using holds) rfl rfl rfl rfl⟩

theorem linkSideWork_abandonDispatch : LinkSideWork s (s.abandonDispatch k) := by
  unfold State.abandonDispatch
  split
  · exact s.linkSideWork_stop k (by simp)
  all_goals exact .refl s

theorem linkSideWork_giveUpReRead : LinkSideWork s (s.giveUpReRead k) := by
  unfold State.giveUpReRead
  split
  · exact s.linkSideWork_stop k (by simp)
  all_goals exact .refl s

/-! ### Presents and queries (R41, R50 to R52, R152 to R161) -/

theorem linkSideWork_endPresent (o : PresentOutcome) (t : Option TileIdx) : LinkSideWork s (s.endPresent o t) := by
  obtain ⟨x, p, a, e⟩ := s.endPresent_frame o t
  rw [e]; exact ⟨rfl, id⟩

theorem linkSideWork_endQuery (o : QueryOutcome) : LinkSideWork s (s.endQuery o) := ⟨rfl, id⟩

theorem linkSideWork_leaveActive (ts : List TileIdx) (es : List Entry) : LinkSideWork s (s.leaveActive ts es) := by
  obtain ⟨x, p, q, a, n, e⟩ := s.leaveActive_frame ts es
  rw [e]; exact ⟨rfl, id⟩

theorem linkSideWork_appendShows : LinkSideWork s s.appendShows := by
  unfold State.appendShows
  refine .foldl (fun s t => ?_) _ _
  exact .updateLink fun l => l.engine_appendShow _

theorem linkSideWork_enterShowing : LinkSideWork s s.enterShowing := by
  unfold State.enterShowing
  exact (LinkSideWork.setPresent s _).trans (linkSideWork_appendShows _)

theorem linkSideWork_cut : LinkSideWork s s.cut := by
  have marked : ∀ S p, LinkSideWork s { s.setMarks S with present := p } := fun S p =>
    (LinkSideWork.setCells s _).trans (.setPresent _ p)
  simp only [State.cut]
  split
  · exact (marked _ _).trans (linkSideWork_enterShowing _)
  · exact marked _ _

theorem linkSideWork_reportClearedMark : LinkSideWork s s.reportClearedMark := by
  simp only [State.reportClearedMark]
  split
  · split
    · exact (LinkSideWork.setPresent s { s.present with remaining := s.present.remaining - 1 }).trans
        (linkSideWork_enterShowing _)
    · exact .setPresent s _
  · exact .refl s

theorem linkSideWork_reportShow (t : TileIdx) (n : Byte) : LinkSideWork s (s.reportShow t n) := by
  obtain ⟨x, p, a, e⟩ := s.reportShow_frame t n
  rw [e]; exact ⟨rfl, id⟩

/-! ### Dispatch (R84 to R93) -/

theorem linkSideWork_examine : LinkSideWork s s.examine := by
  have moved := LinkSideWork.setWalker s s.walker.next
  simp only [State.examine]
  split
  · exact (moved.trans (.updateLink fun _ => by rfl)).trans (.setCell ..)
  · exact moved

/-- The completion of a dispatch changes its link, whose capture engine it leaves idle, and cells. -/
theorem completeDispatch_frame (e : Entry) (body : HoldBody) (payload : List Word) :
    ∃ l x, s.completeDispatch k e body payload = { s.setLink k l with cells := x } ∧ l.engine = .idle := by
  cases e <;> exact ⟨_, _, rfl, rfl⟩

/-- The completion of a dispatch whose capture engine does nothing. -/
theorem linkSideWork_completeDispatch (idle : (s.link k).engine = .idle) (e : Entry) (body : HoldBody)
    (payload : List Word) : LinkSideWork s (s.completeDispatch k e body payload) := by
  obtain ⟨l, x, eq, hl⟩ := s.completeDispatch_frame k e body payload
  rw [eq]
  exact (LinkSideWork.setLink (hl.trans idle.symm)).trans (.setCells _ _)

/-- The completion of a dispatch at the end of its grant. -/
theorem linkSideWork_completeDispatch_releaseGrant (holds : s.arbiter.holder = some (.capture k)) (e : Entry)
    (body : HoldBody) (payload : List Word) : LinkSideWork s (s.completeDispatch k e body payload).releaseGrant := by
  obtain ⟨l, x, eq, hl⟩ := s.completeDispatch_frame k e body payload
  rw [eq]
  exact ⟨rfl, fun hs => arbiterSound_of_capture_release (k := k) hs holds rfl hl rfl rfl⟩

/-- An idle capture engine takes work and asks for the store. -/
theorem linkSideWork_askStore (idle : (s.link k).engine = .idle) {e : CaptureEngine} (he : e ≠ .idle) (hg : ¬ e.givenUp) :
    LinkSideWork s ((s.updateLink k fun l => { l with engine := e }).request (.capture k)) :=
  ⟨rfl, fun hs => arbiterSound_of_capture_request (k := k) hs idle rfl he hg rfl rfl⟩

theorem linkSideWork_freeEngine (holds : s.arbiter.holder = some (.capture k)) : LinkSideWork s (s.freeEngine k) :=
  ⟨rfl, fun hs => arbiterSound_of_capture_release (k := k) hs holds rfl rfl rfl rfl⟩

theorem linkSideWork_select : LinkSideWork s (s.select k) := by
  unfold State.select
  split
  · next may =>
    have idle : (s.link k).engine = .idle := by
      simp only [LinkSlice.maySelect, Bool.and_eq_true, beq_iff_eq] at may
      exact may.1.1.1.1
    split
    · exact .refl s
    · split
      · exact s.linkSideWork_completeDispatch k idle _ _ _
      · exact s.linkSideWork_askStore k idle (by simp) (by simp [CaptureEngine.givenUp])
    · exact s.linkSideWork_completeDispatch k idle _ _ _
    · exact s.linkSideWork_completeDispatch k idle _ _ _
  · exact .refl s

theorem linkSideWork_endCapture (holds : s.arbiter.holder = some (.capture k)) : LinkSideWork s (s.endCapture k) := by
  unfold State.endCapture
  split
  · split
    · exact s.linkSideWork_completeDispatch_releaseGrant k holds _ _ _
    · split
      · exact s.linkSideWork_completeDispatch_releaseGrant k holds _ _ _
      · exact ⟨rfl, fun hs => arbiterSound_of_capture_release_request (k := k) hs holds rfl (by simp)
          (by simp [CaptureEngine.givenUp]) rfl rfl⟩
  · exact s.linkSideWork_freeEngine k holds
  all_goals exact .refl s

/-! ### Attempts, entry to UP and loss (R115 to R118, R131) -/

theorem linkSideWork_beginAttempt : LinkSideWork s (s.beginAttempt k) := .updateLink fun l => l.engine_beginAttempt _

theorem linkSideWork_attemptTimedOut : LinkSideWork s (s.attemptTimedOut k) := by
  simp only [State.attemptTimedOut]
  have counted : LinkSideWork s (s.updateLink k fun l => { l with attemptCount := (s.link k).attemptCount + 1 }) :=
    .updateLink fun _ => rfl
  split
  · exact (counted.trans (.updateLink fun _ => by rfl)).trans (.attend ..)
  · exact counted.trans (linkSideWork_beginAttempt _ k)

theorem linkSideWork_enterUp (n : BitVec 3) (capacity restart : Vector Nibble 4) :
    LinkSideWork s (s.enterUp k n capacity restart) := by
  have joins : ∀ s, LinkSideWork s ((List.finRange 16).foldl (State.joinTile k) s) := fun s => by
    obtain ⟨x, a, e⟩ := State.joinTiles_frame k (List.finRange 16) s
    rw [e]; exact ⟨rfl, id⟩
  exact ((LinkSideWork.trans (.updateLink fun _ => by rfl) (.attend ..)).trans (joins _)).trans
    (.updateLink LinkSlice.engine_handHello)

theorem linkSideWork_afterLoss (off : Bool) : LinkSideWork s (s.afterLoss k off) := by
  unfold State.afterLoss
  split
  · exact .updateLink fun _ => rfl
  · exact s.linkSideWork_beginAttempt k

theorem linkSideWork_loseLink (reason : LossReason) (off : Bool) : LinkSideWork s (s.loseLink k reason off) := by
  have dropped : ∀ (s : State) ts, LinkSideWork s ((s.updateLink k (·.dropUp)).makeWaiting ts) :=
    fun s ts => LinkSideWork.trans (.updateLink fun _ => by rfl) (.setTiles _ _)
  exact (((((LinkSideWork.attend s _).trans (linkSideWork_abandonDispatch _ k)).trans
    (linkSideWork_giveUpReRead _ k)).trans (dropped _ _)).trans (linkSideWork_leaveActive _ _ _)).trans
      (linkSideWork_afterLoss _ k off)

/-! ### Acknowledgement and replay (R119 to R128) -/

theorem linkSideWork_releaseEffect (r : HoldRecord) : LinkSideWork s (s.releaseEffect r) := by
  have acked : ∀ w, LinkSideWork s (State.releaseEffect.ackCellOf s r w) := fun w => by
    unfold State.releaseEffect.ackCellOf
    split
    · exact (LinkSideWork.setCell ..).trans (linkSideWork_reportClearedMark _)
    · exact .setCell ..
  unfold State.releaseEffect
  split
  · exact .refl s
  · split
    · exact acked _
    · exact acked _
    · exact s.linkSideWork_reportShow _ _
    · exact .refl s

theorem linkSideWork_release (n : Nat) : LinkSideWork s (s.release k n) := by
  simp only [State.release]
  split
  · exact .refl s
  · have effects : ∀ l : LinkSlice, l.engine = (s.link k).engine →
        LinkSideWork s (((s.link k).hold.take n).foldl State.releaseEffect (s.setLink k l)) :=
      fun l hl => (LinkSideWork.setLink hl).trans (.foldl linkSideWork_releaseEffect _ _)
    split
    · exact effects _ (by rfl)
    · split
      · exact LinkSideWork.trans (.trans (effects _ (by rfl)) (linkSideWork_giveUpReRead _ k))
          (.updateLink fun _ => by rfl)
      · exact effects _ (by rfl)

theorem linkSideWork_countReplay (q : SeqNo) : LinkSideWork s (s.countReplay k q) := by
  have counted : LinkSideWork s (s.updateLink k fun l => { l with replayCount := (s.link k).replayCount + 1 }) :=
    .updateLink fun _ => rfl
  simp only [State.countReplay]
  split
  · exact counted.trans (linkSideWork_loseLink _ k _ _)
  · exact (counted.trans (linkSideWork_giveUpReRead _ k)).trans (.updateLink fun _ => by rfl)

theorem linkSideWork_replayTimedOut : LinkSideWork s (s.replayTimedOut k) := by
  unfold State.replayTimedOut
  split
  · exact s.linkSideWork_countReplay k _
  · exact .refl s

theorem linkSideWork_retransmit : LinkSideWork s (s.retransmit k) := by
  unfold State.retransmit
  split
  · exact .refl s
  · next r may =>
    have idle : (s.link k).engine = .idle := by
      by_contra busy
      simp [LinkSlice.mayRetransmit, busy] at may
    split
    · exact s.linkSideWork_askStore k idle (by simp) (by simp [CaptureEngine.givenUp])
    all_goals exact .updateLink fun _ => rfl

theorem linkSideWork_endReRead (holds : s.arbiter.holder = some (.capture k)) : LinkSideWork s (s.endReRead k) := by
  unfold State.endReRead
  split
  · split
    · exact LinkSideWork.trans (.updateLink fun _ => by rfl) (linkSideWork_freeEngine _ k holds)
    · exact s.linkSideWork_freeEngine k holds
  · exact s.linkSideWork_freeEngine k holds
  all_goals exact .refl s

/-! ### Notices (R102, R104, R108, R109) -/

theorem linkSideWork_setStray : LinkSideWork s (s.updateLink k (·.setStray)) := .updateLink fun _ => by rfl

/-- A valid notice whose block does work of the link side. -/
theorem linkSideWork_notice {f : State → State} (hf : ∀ s, LinkSideWork s (f s)) : LinkSideWork s (s.notice k f) := by
  unfold State.notice
  split
  · exact LinkSideWork.trans (.updateLink fun _ => by rfl) (hf _)
  all_goals exact .refl s

theorem linkSideWork_badNotice : LinkSideWork s (s.badNotice k) := by
  unfold State.badNotice
  split
  · exact .updateLink fun _ => rfl
  · exact .updateLink fun _ => rfl
  all_goals exact .refl s

theorem linkSideWork_takeHello (seen : Bool) (n : BitVec 3) (capacity restart : Vector Nibble 4) :
    LinkSideWork s (s.takeHello k seen n capacity restart) := by
  unfold State.takeHello
  split
  · split
    · have heard : LinkSideWork s (s.updateLink k fun l => { l with partnerHeard := true }) := .updateLink fun _ => rfl
      simp only []
      split
      · exact heard.trans (linkSideWork_enterUp _ k n capacity restart)
      · exact heard
    · exact LinkSideWork.trans (.updateLink fun _ => by rfl) (linkSideWork_loseLink _ k _ _)
    all_goals exact .refl s
  · exact s.linkSideWork_badNotice k

theorem linkSideWork_takeAck (q : SeqNo) : LinkSideWork s (s.takeAck k q) := by
  simp only [State.takeAck]
  split
  · split
    · exact s.linkSideWork_release k _
    · exact .refl s
  · exact s.linkSideWork_setStray k

theorem linkSideWork_takeNak (q : SeqNo) : LinkSideWork s (s.takeNak k q) := by
  simp only [State.takeNak]
  split
  · split
    · exact (s.linkSideWork_release k _).trans (linkSideWork_countReplay _ k q)
    · exact s.linkSideWork_release k _
  · exact s.linkSideWork_setStray k

theorem linkSideWork_takeTileStatus (p : Position) (freed : Byte) (restart : Nibble) (shown : Byte) :
    LinkSideWork s (s.takeTileStatus k p freed restart shown) := by
  simp only [State.takeTileStatus]
  split
  · exact s.linkSideWork_setStray k
  · split
    · exact s.linkSideWork_loseLink k _ _
    · have returned : ∀ r, LinkSideWork s (s.updateLink k (·.setPosition p r)) := fun _ => .updateLink fun _ => rfl
      split
      · exact ((returned _).trans (.updateLink fun _ => by rfl)).trans (.attend ..)
      · exact returned _

theorem linkSideWork_takeReport (p : Position) (tag : Byte) (capacity : Nibble) (shown : Byte) (restart : Nibble)
    (word : BitVec 32) : LinkSideWork s (s.takeReport k p tag capacity shown restart word) := by
  unfold State.takeReport
  split
  · exact ⟨rfl, id⟩
  · exact s.linkSideWork_setStray k

/-! ### Link-side parts of commands (R44, R49, R137) -/

theorem linkSideWork_freshAttempt : LinkSideWork s (s.freshAttempt k) :=
  LinkSideWork.trans (.updateLink fun _ => by rfl) (linkSideWork_beginAttempt _ k)

theorem linkSideWork_startQuery (t : TileIdx) : LinkSideWork s (s.startQuery t) :=
  LinkSideWork.trans (.updateLink fun _ => by rfl) (.setQuery _ _)

theorem linkSideWork_disableTile (t : TileIdx) : LinkSideWork s (s.disableTile t) := by
  have disabled : LinkSideWork s (s.setTile t { s.tile t with state := .disabled }) := .setTile ..
  simp only [State.disableTile]
  split
  · have removed : ∀ (s : State) j ts es,
        LinkSideWork s ((s.updateLink j fun l => (l.removeTile t).orphanTile t).leaveActive ts es) :=
      fun s j ts es => LinkSideWork.trans (.updateLink fun _ => by rfl) (linkSideWork_leaveActive _ ts es)
    split
    · exact (disabled.trans (linkSideWork_abandonDispatch _ _)).trans (removed ..)
    · exact disabled.trans (removed ..)
  · exact disabled

theorem linkSideWork_softResetLink : LinkSideWork s (s.softResetLink k) :=
  ((s.linkSideWork_abandonDispatch k).trans (linkSideWork_giveUpReRead _ k)).trans
    (.updateLink fun l => l.engine_softReset _)

end State

end Sys2Proof.Machine

/-! ## The window side: its rules through the carrying out of what is held (R4 to R18) -/

namespace Sys2Proof.Machine

open Sys2Proof.Safety

/-! ### The advance of the pointer (R9) -/

theorem val_nextCoord {c : Coord} (h : c.val < 511) : (nextCoord c).val = c.val + 1 := by
  simp only [nextCoord, Fin.ofNat]; omega

/-- An advance changes the pointer and the wrapped flag alone. -/
theorem PixelWindow.advance_frame (w : PixelWindow) :
    w.advance = { w with x := w.advance.x, y := w.advance.y, wrapped := w.advance.wrapped } := by
  unfold PixelWindow.advance
  split <;> split
  · rfl
  · split <;> rfl
  · rfl
  · split <;> rfl

@[simp] theorem PixelWindow.rect_advance (w : PixelWindow) : w.advance.rect = w.rect := by rw [w.advance_frame]
@[simp] theorem PixelWindow.order_advance (w : PixelWindow) : w.advance.order = w.order := by rw [w.advance_frame]
@[simp] theorem PixelWindow.modify_advance (w : PixelWindow) : w.advance.modify = w.modify := by rw [w.advance_frame]
@[simp] theorem PixelWindow.op_advance (w : PixelWindow) : w.advance.op = w.op := by rw [w.advance_frame]
@[simp] theorem PixelWindow.held_advance (w : PixelWindow) : w.advance.held = w.held := by rw [w.advance_frame]

/-- An advance keeps the pointer inside the window. -/
theorem PixelWindow.inside_advance (w : PixelWindow) (ordered : RectOrdered w.rect) (h : Inside w.rect w.x w.y) :
    Inside w.rect w.advance.x w.advance.y := by
  have next : ∀ c b : Coord, c.val + 1 ≤ b.val → (nextCoord c).val = c.val + 1 := fun c b hb => val_nextCoord (by omega)
  simp only [RectOrdered, Inside, Fin.le_def] at *
  unfold PixelWindow.advance
  split <;> split
  · next hx => have := next _ _ hx; simp only []; omega
  · split
    · next hy => have := next _ _ hy; simp only []; omega
    · simp only []; omega
  · next hy => have := next _ _ hy; simp only []; omega
  · split
    · next hx => have := next _ _ hx; simp only []; omega
    · simp only []; omega

/-! ### The ends of cycles and grants, each as one change of the state -/

theorem State.readLatch_eq (s : State) (rest : List HeldOp) :
    s.readLatch rest = { s with
      bus := if s.bus.cycle = .stretchedRead ∧ rest.any HeldOp.isAccess = false then ⟨.none, s.window.latch⟩ else s.bus } := by
  simp only [State.readLatch, Bool.not_eq_true]
  split <;> rfl

theorem State.endCycle_eq (s : State) (rest : List HeldOp) (c : HostCycle) :
    s.endCycle rest c = { s with
      bus := if s.bus.cycle = c ∧ rest.any HeldOp.isAccess = false then { s.bus with cycle := .none } else s.bus } := by
  simp only [State.endCycle, Bool.not_eq_true]
  split <;> rfl

/-- A notification reads no pixel and changes cells alone. -/
theorem State.notify_store (s : State) (m : List Host.Cell) (f : FillEngine) (b : StoreBand) (first count : Nat) :
    State.notify { s with store := m, fill := f } b first count =
      { s with store := m, fill := f, cells := (s.notify b first count).cells } := rfl

/-- The landing of a pixel write (R10, R15, R9, R12). -/
theorem State.land_eq (s : State) (v : Word) :
    s.land v = { s with
      store := Memory.writePixel s.store s.window.mask s.window.x s.window.y v
      cells := (s.notify (bandOfRow s.window.y) s.window.x.val 1).cells
      bus := if s.bus.cycle = .stretchedWrite ∧ s.window.held.any HeldOp.isAccess = false
        then { s.bus with cycle := .none } else s.bus
      window := { s.window.advance with op := .latchLoad .access }
      arbiter := s.arbiter.release.request .window } := by
  have notified := s.notify_store (Memory.writePixel s.store s.window.mask s.window.x s.window.y v) s.fill
  simp only [State.land, notified, State.endCycle_eq, State.nextWindowOp, State.releaseGrant,
    State.startWindowOp, State.request]

/-- The end of one FILL row's grant (R17, R18). -/
theorem State.endFillRow_eq (s : State) :
    s.endFillRow = { s with
      store := Memory.writeRow s.store s.fill.mask s.fill.rect.x0 s.fill.rect.x1 (Fin.ofNat 512 s.fill.row) s.fill.value
      cells := if lastRowInBand s.fill.row s.fill.rect.y1.val then
          (s.notify (bandOfRow (Fin.ofNat 512 s.fill.row)) s.fill.rect.x0.val
            (s.fill.rect.x1.val - s.fill.rect.x0.val + 1)).cells
        else s.cells
      fill := { s.fill with row := s.fill.row + 1 }
      window := { s.window with op := if s.fill.row = s.fill.rect.y1.val then .latchLoad .fillEnd else .fillRow }
      arbiter := s.arbiter.release.request .window } := by
  have notified := s.notify_store (Memory.writeRow s.store s.fill.mask s.fill.rect.x0 s.fill.rect.x1
    (Fin.ofNat 512 s.fill.row) s.fill.value) { s.fill with row := s.fill.row + 1 }
  by_cases last : lastRowInBand s.fill.row s.fill.rect.y1.val = true <;>
    simp only [State.endFillRow, notified, last, if_true, if_false, Bool.false_eq_true, State.nextWindowOp,
      State.releaseGrant, State.startWindowOp, State.request]

/-- The end of one start-up clear row's grant (R2). -/
theorem State.endClearRow_eq (s : State) :
    s.endClearRow = { s with
      store := Memory.writeRow s.store 0xFFFF 0 511 (Fin.ofNat 512 s.fill.clearRow) 0
      fill := { s.fill with clearRow := s.fill.clearRow + 1 }
      window := { s.window with op := if s.fill.clearRow = 511 then .latchLoad .clearEnd else .clearRow }
      arbiter := s.arbiter.release.request .window } := by
  simp only [State.endClearRow, State.nextWindowOp, State.releaseGrant, State.startWindowOp, State.request]

/-! ### The window side's rules with its operation and what waits named apart -/

/-- The rules of WindowSound for an operation `op` and held work `held` that the window side is about to have. -/
structure SideSound (s : State) (op : WindowOp) (held : List HeldOp) : Prop where
  pointer : PointerInWindow s
  commands : held.countP heldCommand + (opCommand op).toNat + s.map.sweep.isSome.toNat = s.cu.busy.toNat
  fit : ∀ h ∈ held, HeldFit s.window.rect h
  fill : s.fill.running = (opFill op || held.contains .fillStart)
  ready : s.notReady = (opClear op || !s.nReset)

theorem windowSound_iff (s : State) :
    WindowSound s ↔ SideSound s s.window.op s.window.held ∧ (s.window.op = .idle → s.window.held = []) ∧
      (s.nReset = false → s.window.op = .idle) := by
  constructor
  · rintro ⟨pointer, commands, fit, free, fill, ready, low⟩
    exact ⟨⟨pointer, commands, fit, fill, ready⟩, free, low⟩
  · rintro ⟨⟨pointer, commands, fit, fill, ready⟩, free, low⟩
    exact ⟨pointer, commands, fit, free, fill, ready, low⟩

/-- With one command in progress at most, the operations held beside a command's are pixel accesses. -/
theorem SideSound.rest_fit {s : State} {op : WindowOp} {h : HeldOp} {rest : List HeldOp} (hs : SideSound s op (h :: rest))
    (command : heldCommand h = true) (r : Rect) : ∀ g ∈ rest, HeldFit r g := by
  have none : rest.countP heldCommand = 0 := by
    have := hs.commands
    have := s.cu.busy.toNat_le
    simp only [List.countP_cons, command, if_true] at *
    omega
  intro g hg
  have access : heldCommand g = false := by simpa using List.countP_eq_zero.mp none g hg
  cases g with
  | setWindow _ => cases access
  | setPointer _ _ => cases access
  | _ => trivial

/-- The window side takes an operation with all rules kept. -/
theorem windowSound_startWindowOp {s : State} {op : WindowOp} (h : SideSound s op s.window.held) (busy : op ≠ .idle)
    (high : s.nReset = true) : WindowSound (s.startWindowOp op) := by
  rw [windowSound_iff]
  refine ⟨⟨h.pointer, h.commands, h.fit, h.fill, h.ready⟩, fun idle => absurd idle busy, fun low => ?_⟩
  simp [high] at low

/-- What is held is carried out with all rules kept. -/
theorem windowSound_runHeld (held : List HeldOp) (s : State) (h : SideSound s .idle held) (high : s.nReset = true) :
    WindowSound (State.runHeld held s) := by
  induction held generalizing s with
  | nil =>
    rw [windowSound_iff]
    exact ⟨⟨h.pointer, h.commands, by simp [State.runHeld], h.fill, h.ready⟩, fun _ => rfl, fun _ => rfl⟩
  | cons op rest ih =>
    have restFit : ∀ g ∈ rest, HeldFit s.window.rect g := fun g hg => h.fit g (List.mem_cons_of_mem _ hg)
    have opFit := h.fit op List.mem_cons_self
    have commands := h.commands
    have fill := h.fill
    simp only [List.countP_cons, List.contains_cons] at commands fill
    cases op with
    | pixelWrite v => exact windowSound_startWindowOp ⟨h.pointer, commands, restFit, fill, h.ready⟩ (by simp) high
    | pixelRead =>
      simp only [State.runHeld, State.readLatch_eq]
      split
      · exact ih _ ⟨h.pointer, commands, restFit, fill, h.ready⟩ high
      · obtain ⟨ordered, inside⟩ := h.pointer
        refine windowSound_startWindowOp ⟨⟨?_, ?_⟩, commands, ?_, fill, h.ready⟩ (by simp) high
        · simpa using ordered
        · simpa using s.window.inside_advance ordered inside
        · simpa using restFit
    | setWindow r =>
      have ordered : RectOrdered r := opFit
      obtain ⟨hx, hy⟩ := ordered
      exact windowSound_startWindowOp ⟨⟨⟨hx, hy⟩, le_refl _, hx, le_refl _, hy⟩, commands, h.rest_fit rfl r, fill, h.ready⟩
        (by simp) high
    | setPointer x y =>
      exact windowSound_startWindowOp ⟨⟨h.pointer.1, opFit⟩, commands, restFit, fill, h.ready⟩ (by simp) high
    | setMode o m =>
      refine ih _ ⟨h.pointer, ?_, restFit, fill, h.ready⟩ high
      have := s.cu.busy.toNat_le
      simp only [heldCommand, if_true] at commands
      show _ = 0
      simp only [opCommand, Bool.toNat_false] at commands ⊢
      exact Nat.le_zero.mp (by simp only [State.map_complete]; omega)
    | fillStart => exact windowSound_startWindowOp ⟨h.pointer, commands, restFit, fill, h.ready⟩ (by simp) high

/-- An operation that fits is taken with all rules kept. -/
theorem windowSound_takeWindowOp {s : State} {op : HeldOp} (h : SideSound s s.window.op (s.window.held ++ [op]))
    (high : s.nReset = true) : WindowSound (s.takeWindowOp op) := by
  simp only [State.takeWindowOp]
  split
  · next idle => exact windowSound_runHeld _ s (idle ▸ h) high
  · next busy =>
    rw [windowSound_iff]
    exact ⟨⟨h.pointer, h.commands, h.fit, h.fill, h.ready⟩, fun idle => absurd idle busy,
      fun low => by simp [high] at low⟩

/-! ### The window side's requests -/

section Requests

variable {s t : State}

/-- Only the window side differs: every other requester is at work as it was. -/
theorem working_of_links (links : t.links = s.links) : ∀ q, q ≠ .window → (t.working q ↔ s.working q) := by
  rintro (_ | k) hq
  · exact absurd rfl hq
  · simp [State.working, State.link, links]

theorem givenUp_of_links (links : t.links = s.links) (k : Link) (h : (t.link k).engine.givenUp) :
    (s.link k).engine.givenUp := by
  simpa [State.link, links] using h

theorem arbiterSound_of_window_request (hs : ArbiterSound s) (before : s.window.op = .idle) (after : t.window.op ≠ .idle)
    (links : t.links = s.links) (arbiter : t.arbiter = s.arbiter.request .window) : ArbiterSound t :=
  arbiterSound_of_request (r := .window) hs (by simp [State.working, before]) after (working_of_links links) arbiter
    (givenUp_of_links links)

theorem arbiterSound_of_window_release (hs : ArbiterSound s) (holds : s.arbiter.holder = some .window)
    (after : t.window.op = .idle) (links : t.links = s.links) (arbiter : t.arbiter = s.arbiter.release) : ArbiterSound t :=
  arbiterSound_of_release hs holds (by simp [State.working, after]) (working_of_links links) arbiter
    (givenUp_of_links links)

theorem arbiterSound_of_window_release_request (hs : ArbiterSound s) (holds : s.arbiter.holder = some .window)
    (after : t.window.op ≠ .idle) (links : t.links = s.links) (arbiter : t.arbiter = s.arbiter.release.request .window) :
    ArbiterSound t :=
  arbiterSound_of_release_request hs holds after (working_of_links links) arbiter
    fun k hk => ⟨givenUp_of_links links k hk, by simp⟩

/-- The carrying out of what is held asks for the store once, with an operation taken, or leaves the window side idle. -/
theorem runHeld_asks (held : List HeldOp) (s : State) :
    (State.runHeld held s).links = s.links ∧
    (((State.runHeld held s).window.op = .idle ∧ (State.runHeld held s).arbiter = s.arbiter) ∨
      ((State.runHeld held s).window.op ≠ .idle ∧ (State.runHeld held s).arbiter = s.arbiter.request .window)) := by
  have starts : ∀ (u : State) (op : WindowOp), op ≠ .idle → u.links = s.links → u.arbiter = s.arbiter →
      (u.startWindowOp op).links = s.links ∧
      (((u.startWindowOp op).window.op = .idle ∧ (u.startWindowOp op).arbiter = s.arbiter) ∨
        ((u.startWindowOp op).window.op ≠ .idle ∧ (u.startWindowOp op).arbiter = s.arbiter.request .window)) :=
    fun u op hop links arbiter => ⟨links, .inr ⟨hop, congrArg (·.request .window) arbiter⟩⟩
  induction held generalizing s with
  | nil => exact ⟨rfl, .inl ⟨rfl, rfl⟩⟩
  | cons op rest ih =>
    cases op with
    | pixelRead =>
      simp only [State.runHeld, State.readLatch_eq]
      split
      · exact ih { s with bus := _ } fun u op => starts u op
      · exact starts _ _ (by simp) rfl rfl
    | setMode o m =>
      exact ih (({ s with window := { s.window with order := o, modify := m } } : State).complete []) fun u op => starts u op
    | pixelWrite v => exact starts _ _ (by simp) rfl rfl
    | setWindow r => exact starts _ _ (by simp) rfl rfl
    | setPointer x y => exact starts _ _ (by simp) rfl rfl
    | fillStart => exact starts _ _ (by simp) rfl rfl

theorem arbiterSound_takeWindowOp (hs : ArbiterSound s) (op : HeldOp) : ArbiterSound (s.takeWindowOp op) := by
  simp only [State.takeWindowOp]
  split
  · next idle =>
    obtain ⟨links, ⟨op, arbiter⟩ | ⟨op, arbiter⟩⟩ := runHeld_asks (s.window.held ++ [op]) s
    · exact arbiterSound_of_links hs arbiter (by simp [op, idle]) links
    · exact arbiterSound_of_window_request hs idle op links arbiter
  · exact arbiterSound_of_links hs rfl Iff.rfl rfl

end Requests

end Sys2Proof.Machine

/-! ## Every command keeps the rules of the window side and of the Store Arbiter (R2, R4, R12, R13, R19, R180, R181) -/

namespace Sys2Proof.Machine

open Sys2Proof.Safety

/-- The rules of the window side are kept, and under them the arbiter's. -/
structure KeepsStoreRules (s t : State) : Prop where
  window : WindowSound s → WindowSound t
  arbiter : WindowSound s → ArbiterSound s → ArbiterSound t

/-- What WindowSound speaks of, but for the Command Unit's BUSY and the sweep. -/
def State.sideView (s : State) : Rect × Coord × Coord × WindowOp × List HeldOp × Bool × Bool × Bool :=
  (s.window.rect, s.window.x, s.window.y, s.window.op, s.window.held, s.fill.running, s.notReady, s.nReset)

/-- The window side's rules rest on its own view, and on BUSY and the sweep changing together. -/
theorem windowSound_of_view {s t : State} (view : t.sideView = s.sideView)
    (commands : s.cu.busy.toNat + t.map.sweep.isSome.toNat = t.cu.busy.toNat + s.map.sweep.isSome.toNat)
    (hs : WindowSound s) : WindowSound t := by
  simp only [State.sideView, Prod.mk.injEq] at view
  obtain ⟨rect, x, y, op, held, running, notReady, nReset⟩ := view
  obtain ⟨pointer, one, rest⟩ := hs
  refine ⟨?_, ?_, ?_⟩
  · simpa only [PointerInWindow, rect, x, y] using pointer
  · simp only [OneCommand, commandsInProgress, op, held] at one ⊢
    omega
  · simpa only [rect, op, held, running, notReady, nReset] using rest

theorem windowSound_of_kept {s t : State} (view : t.sideView = s.sideView) (busy : t.cu.busy = s.cu.busy)
    (sweep : t.map.sweep.isSome = s.map.sweep.isSome) (hs : WindowSound s) : WindowSound t :=
  windowSound_of_view view (by rw [busy, sweep]) hs

/-- No sweep runs while the unit is IDLE. -/
theorem sweep_of_idle {s : State} (hs : WindowSound s) (idle : s.cu.busy = false) : s.map.sweep = none := by
  obtain ⟨-, one, -⟩ := hs
  simp only [OneCommand, commandsInProgress, idle, Bool.toNat_false] at one
  cases h : s.map.sweep with
  | none => rfl
  | some _ => simp [h] at one

/-- A sweep that runs is the command that holds the unit BUSY. -/
theorem busy_of_sweep {s : State} (hs : WindowSound s) (sweep : s.map.sweep.isSome = true) : s.cu.busy = true := by
  obtain ⟨-, one, -⟩ := hs
  cases h : s.cu.busy with
  | false => simp [OneCommand, commandsInProgress, sweep, h] at one
  | true => rfl

namespace KeepsStoreRules

variable {s t u : State}

theorem refl (s : State) : KeepsStoreRules s s := ⟨id, fun _ => id⟩

theorem trans (h : KeepsStoreRules s t) (g : KeepsStoreRules t u) : KeepsStoreRules s u :=
  ⟨g.window ∘ h.window, fun hw ha => g.arbiter (h.window hw) (h.arbiter hw ha)⟩

theorem of_view (view : t.sideView = s.sideView) (busy : t.cu.busy = s.cu.busy)
    (sweep : t.map.sweep.isSome = s.map.sweep.isSome) (arbiter : t.arbiter = s.arbiter) (links : t.links = s.links) :
    KeepsStoreRules s t := by
  refine ⟨windowSound_of_kept view busy sweep, fun _ ha => arbiterSound_of_links ha arbiter ?_ links⟩
  simp only [State.sideView, Prod.mk.injEq] at view
  obtain ⟨-, -, -, op, -⟩ := view
  rw [op]

theorem of_linkSideWork (h : LinkSideWork s t) : KeepsStoreRules s t :=
  ⟨windowSound_of_kept (by rw [h.kept]; rfl) (by rw [h.kept]) (by rw [h.kept]), fun _ => h.arbiterSound⟩

end KeepsStoreRules

/-! ### Events, accesses and command writes -/

section Outcomes

variable {s t : State} {f : State → State}

theorem keeps_event (h : s.event f = .next t) (hf : s.nReset = true → KeepsStoreRules s (f s)) : KeepsStoreRules s t := by
  obtain rfl : (if s.nReset then f s else s) = t := by simpa [State.event] using h
  split
  · next high => exact hf high
  · exact .refl s

theorem keeps_hostAccess (s : State) : KeepsStoreRules s s.hostAccess :=
  .of_view (by simp [State.sideView]) (by simp) (by simp) s.arbiter_hostAccess s.links_hostAccess

theorem keeps_access (h : s.access f = .next t) (hf : ∀ s : State, s.nReset = true → KeepsStoreRules s (f s)) :
    KeepsStoreRules s t :=
  keeps_event h fun high => (keeps_hostAccess s).trans (hf _ (by simpa using high))

theorem keeps_if {p : Prop} [Decidable p] (h : p → KeepsStoreRules s t) : KeepsStoreRules s (if p then t else s) := by
  split
  · next hp => exact h hp
  · exact .refl s

/-- A command write whose own rule, run on a taken command, keeps the rules. -/
theorem keeps_commandWrite {code : Byte} {n : Nat} {body : List Word → State → State}
    (h : s.commandWrite code n body = .next t)
    (hb : ∀ ps (s : State), s.nReset = true → s.cu.busy = false → s.notReady = false →
      KeepsStoreRules s (body ps (s.takeCommand code))) : KeepsStoreRules s t := by
  refine keeps_access h fun s high => ?_
  rcases s.command_cases code n body with ⟨-, e⟩ | ⟨idle, r, -, e⟩ | ⟨idle, -, -, ready, e⟩
  · rw [e]; exact .of_view rfl rfl rfl rfl rfl
  · rw [e]; exact .of_view rfl idle.symm rfl rfl rfl
  · rw [e]; exact hb _ s high idle ready

/-- A command's own rule that does link-side work and ends the command. -/
def EndsAtOnce (s t : State) : Prop := ∃ u r ws, LinkSideWork s u ∧ t = u.finish r ws

theorem LinkSideWork.endsAtOnce (h : LinkSideWork s t) (ws : List Word) : EndsAtOnce s (t.complete ws) := ⟨t, _, ws, h, rfl⟩

theorem endsAtOnce_refuse (s : State) (r : ResultCode) : EndsAtOnce s (s.refuse r) := ⟨s, r, [], .refl s, rfl⟩

theorem endsAtOnce_complete (s : State) (ws : List Word) : EndsAtOnce s (s.complete ws) := ⟨s, _, ws, .refl s, rfl⟩

theorem keeps_of_endsAtOnce {code : Byte} (idle : s.cu.busy = false) (h : EndsAtOnce (s.takeCommand code) t) :
    KeepsStoreRules s t := by
  obtain ⟨u, r, ws, work, rfl⟩ := h
  refine ⟨windowSound_of_kept ?_ idle.symm ?_, fun _ ha => work.arbiterSound ha⟩
  · rw [work.kept]; rfl
  · rw [work.kept]; rfl

theorem keeps_commandWrite_of_endsAtOnce {code : Byte} {n : Nat} {body : List Word → State → State}
    (h : s.commandWrite code n body = .next t) (hb : ∀ ps s, EndsAtOnce s (body ps s)) : KeepsStoreRules s t :=
  keeps_commandWrite h fun _ _ _ idle _ => keeps_of_endsAtOnce idle (hb _ _)

theorem keeps_linkCommand {code : Byte} {body : Link → State → State} (h : s.linkCommand code body = .next t)
    (hb : ∀ k s, EndsAtOnce s (body k s)) : KeepsStoreRules s t := by
  refine keeps_commandWrite_of_endsAtOnce h fun ps s => ?_
  split
  · exact endsAtOnce_refuse s _
  · exact hb _ s

end Outcomes

/-! ### Resets and the start-up clear -/

theorem arbiterSound_hardReset (s : State) : ArbiterSound s.hardReset := by
  have idle : ∀ k : Link, (s.hardReset.link k).engine = .idle := fun k => by
    simp [State.link, State.hardReset, State.inReset, LinkSlice.hardReset]
  rw [arbiterSound_iff]
  refine ⟨⟨fun r hr => ?_, fun r => ?_, fun _ r => ?_⟩, fun k hk => ?_⟩
  · cases hr
  · cases r <;> simp [State.working, idle, Arbiter.waits] <;>
      simp [State.hardReset, State.inReset, PixelWindow.hardReset]
  · cases r <;> simp [Arbiter.waits, State.hardReset, State.inReset]
  · simp [idle, CaptureEngine.givenUp] at hk

theorem windowSound_hardReset (s : State) : WindowSound s.hardReset := by
  rw [windowSound_iff]
  have whole : RectOrdered PixelWindow.hardReset.rect ∧ Inside PixelWindow.hardReset.rect 0 0 := by
    unfold RectOrdered Inside; decide
  exact ⟨⟨whole, rfl, fun _ hh => (List.not_mem_nil hh).elim, rfl, rfl⟩, fun _ => rfl, fun _ => rfl⟩

theorem keeps_hardReset (s : State) : KeepsStoreRules s s.hardReset :=
  ⟨fun _ => windowSound_hardReset s, fun _ _ => arbiterSound_hardReset s⟩

/-- nRESET rises on a state in reset (R2). -/
theorem keeps_beginClear {s : State} (low : s.nReset = false) :
    KeepsStoreRules s ({ s with nReset := true } : State).beginClear := by
  constructor
  · intro hs
    obtain ⟨side, free, idle⟩ := (windowSound_iff s).mp hs
    have held := free (idle low)
    refine windowSound_startWindowOp ⟨side.pointer, ?_, side.fit, ?_, rfl⟩ (by simp) rfl
    · simpa [idle low, opCommand] using side.commands
    · simpa [idle low, opFill] using side.fill
  · intro hs ha
    obtain ⟨-, -, idle⟩ := (windowSound_iff s).mp hs
    exact arbiterSound_of_window_request ha (idle low) (by simp [State.beginClear, State.startWindowOp, State.request]) rfl rfl

/-! ### The ends of window-side grants -/

section Grants

variable {s t : State}

/-- The window side's grant ends and it asks again for its next operation. -/
theorem keeps_of_next_op (high : s.nReset = true) (holds : s.arbiter.holder = some .window) (busy : t.window.op ≠ .idle)
    (nReset : t.nReset = s.nReset) (links : t.links = s.links) (arbiter : t.arbiter = s.arbiter.release.request .window)
    (side : SideSound s s.window.op s.window.held → SideSound t t.window.op t.window.held) : KeepsStoreRules s t := by
  constructor
  · intro hs
    obtain ⟨h, -, -⟩ := (windowSound_iff s).mp hs
    exact (windowSound_iff t).mpr ⟨side h, fun idle => absurd idle busy, fun low => by simp [nReset, high] at low⟩
  · exact fun _ ha => arbiterSound_of_window_release_request ha holds busy links arbiter

theorem keeps_land {v : Word} (high : s.nReset = true) (op : s.window.op = .pixelWrite v)
    (holds : s.arbiter.holder = some .window) : KeepsStoreRules s (s.land v) := by
  rw [State.land_eq]
  refine keeps_of_next_op high holds (by simp) rfl rfl rfl fun h => ?_
  obtain ⟨⟨ordered, inside⟩, commands, fit, fill, ready⟩ := h
  rw [op] at commands fill ready
  refine ⟨⟨?_, ?_⟩, ?_, ?_, ?_, ready⟩
  · simpa using ordered
  · simpa using s.window.inside_advance ordered inside
  · simpa [opCommand] using commands
  · simpa using fit
  · simpa [opFill] using fill

theorem keeps_endFillRow (high : s.nReset = true) (op : s.window.op = .fillRow)
    (holds : s.arbiter.holder = some .window) : KeepsStoreRules s s.endFillRow := by
  rw [State.endFillRow_eq]
  refine keeps_of_next_op high holds ?_ rfl rfl rfl fun h => ?_
  · simp only []; split <;> simp
  · obtain ⟨pointer, commands, fit, fill, ready⟩ := h
    rw [op] at commands fill ready
    simp only []
    split
    · exact ⟨pointer, commands, fit, fill, ready⟩
    · exact ⟨pointer, commands, fit, fill, ready⟩

theorem keeps_endClearRow (high : s.nReset = true) (op : s.window.op = .clearRow)
    (holds : s.arbiter.holder = some .window) : KeepsStoreRules s s.endClearRow := by
  rw [State.endClearRow_eq]
  refine keeps_of_next_op high holds ?_ rfl rfl rfl fun h => ?_
  · simp only []; split <;> simp
  · obtain ⟨pointer, commands, fit, fill, ready⟩ := h
    rw [op] at commands fill ready
    simp only []
    split
    · exact ⟨pointer, commands, fit, fill, ready⟩
    · exact ⟨pointer, commands, fit, fill, ready⟩

/-- What the end of a latch load does by its cause leaves the rules for an idle window side with the held work. -/
theorem sideSound_loadEnded (high : s.nReset = true) {cause : LoadCause} {held : List HeldOp}
    (h : SideSound s (.latchLoad cause) held) : SideSound (s.loadEnded cause) .idle held := by
  obtain ⟨pointer, commands, fit, fill, ready⟩ := h
  have one := s.cu.busy.toNat_le
  cases cause with
  | access => exact ⟨pointer, commands, fit, fill, ready⟩
  | command =>
    refine ⟨pointer, ?_, fit, fill, ready⟩
    simp only [opCommand, Bool.toNat_true] at commands
    exact Nat.le_zero.mp (by simp only [State.loadEnded, State.map_complete, opCommand, Bool.toNat_false]; omega)
  | fillEnd =>
    simp only [opCommand, Bool.toNat_true] at commands
    refine ⟨pointer, ?_, fit, ?_, ready⟩
    · exact Nat.le_zero.mp (by simp only [State.loadEnded, State.map_complete, opCommand, Bool.toNat_false]; omega)
    · have none : held.countP heldCommand = 0 := by omega
      have noFill : HeldOp.fillStart ∉ held := fun hm => List.countP_eq_zero.mp none _ hm rfl
      simp [State.loadEnded, opFill, noFill]
  | clearEnd => exact ⟨pointer, commands, fit, fill, by simp [State.loadEnded, opClear, high]⟩

theorem loadEnded_kept (cause : LoadCause) :
    (s.loadEnded cause).nReset = s.nReset ∧ (s.loadEnded cause).links = s.links ∧
      (s.loadEnded cause).arbiter = s.arbiter := by
  cases cause <;> exact ⟨rfl, rfl, rfl⟩

theorem keeps_endLoad {cause : LoadCause} (high : s.nReset = true) (op : s.window.op = .latchLoad cause)
    (holds : s.arbiter.holder = some .window) : KeepsStoreRules s (s.endLoad cause) := by
  let u := State.releaseGrant { s with window.latch := Memory.pixel s.store s.window.x s.window.y }
  obtain ⟨nReset, links, arbiter⟩ := loadEnded_kept (s := u) cause
  have held : (u.loadEnded cause).window.held = s.window.held := by cases cause <;> rfl
  have eq : s.endLoad cause = State.runHeld s.window.held (u.loadEnded cause) := by rw [← held]; rfl
  rw [eq]
  constructor
  · intro hs
    obtain ⟨h, -, -⟩ := (windowSound_iff s).mp hs
    rw [op] at h
    obtain ⟨pointer, commands, fit, fill, ready⟩ := h
    exact windowSound_runHeld _ _ (sideSound_loadEnded (s := u) high ⟨pointer, commands, fit, fill, ready⟩) (nReset.trans high)
  · intro _ ha
    obtain ⟨links', ⟨op', arbiter'⟩ | ⟨op', arbiter'⟩⟩ := runHeld_asks s.window.held (u.loadEnded cause)
    · exact arbiterSound_of_window_release ha holds op' (links'.trans links) (arbiter'.trans arbiter)
    · exact arbiterSound_of_window_release_request ha holds op' (links'.trans links)
        (arbiter'.trans (congrArg (·.request .window) arbiter))

end Grants

end Sys2Proof.Machine

/-! ### Host accesses and window commands -/

namespace Sys2Proof.Machine

open Sys2Proof.Safety

section Accesses

variable {s : State}

/-- A window-side operation is taken on a state that already carries what the operation stands for. -/
theorem keeps_takeWindowOp {u : State} {op : HeldOp} (high : u.nReset = true)
    (side : WindowSound s → SideSound u u.window.op (u.window.held ++ [op])) (arbiter : ArbiterSound s → ArbiterSound u) :
    KeepsStoreRules s (u.takeWindowOp op) :=
  ⟨fun hs => windowSound_takeWindowOp (side hs) high, fun _ ha => arbiterSound_takeWindowOp (arbiter ha) op⟩

/-- A pixel access is held, or carried out, beside whatever waits already. -/
theorem sideSound_access {op : WindowOp} {held : List HeldOp} {h : HeldOp} (access : h.isAccess = true)
    (hs : SideSound s op held) : SideSound s op (held ++ [h]) := by
  obtain ⟨pointer, commands, fit, fill, ready⟩ := hs
  have plain : heldCommand h = false ∧ h ≠ .fillStart ∧ HeldFit s.window.rect h := by
    cases h <;> simp_all [HeldOp.isAccess, heldCommand, HeldFit]
  obtain ⟨command, noFill, fits⟩ := plain
  refine ⟨pointer, ?_, ?_, ?_, ready⟩
  · simpa [List.countP_append, command] using commands
  · simpa [or_imp, forall_and, fits] using fit
  · simpa [noFill, Ne.symm noFill] using fill

/-- A command's operation is held, or carried out, beside pixel accesses, once the unit is BUSY with it. -/
theorem sideSound_command {op : WindowOp} {held : List HeldOp} {h : HeldOp} {code : Byte} (command : heldCommand h = true)
    (noFill : h ≠ .fillStart) (fits : HeldFit s.window.rect h) (idle : s.cu.busy = false) (hs : SideSound s op held) :
    SideSound (s.takeCommand code) op (held ++ [h]) := by
  obtain ⟨pointer, commands, fit, fill, ready⟩ := hs
  refine ⟨pointer, ?_, ?_, ?_, ready⟩
  · simp only [idle, Bool.toNat_false] at commands
    simp only [List.countP_append, List.countP_singleton, command, if_true, State.map_takeCommand]
    show _ = 1
    omega
  · simpa [or_imp, forall_and, fits] using fit
  · simpa [noFill, Ne.symm noFill] using fill

/-- A pixel access stretches the host's cycle and is taken by the window side. -/
theorem keeps_stretchedAccess (high : s.nReset = true) (c : HostCycle) {h : HeldOp} (access : h.isAccess = true) :
    KeepsStoreRules s (({ s with bus.cycle := c } : State).takeWindowOp h) := by
  refine keeps_takeWindowOp high (fun hs => ?_) fun ha => arbiterSound_of_links ha rfl Iff.rfl rfl
  obtain ⟨pointer, commands, fit, fill, ready⟩ := sideSound_access access ((windowSound_iff s).mp hs).1
  exact ⟨pointer, commands, fit, fill, ready⟩

theorem keeps_writePixelData (high : s.nReset = true) (v : Word) : KeepsStoreRules s (s.writePixelData v) := by
  unfold State.writePixelData
  split
  · exact .of_view rfl rfl rfl rfl rfl
  · exact keeps_stretchedAccess high _ rfl

theorem keeps_readPixelData (high : s.nReset = true) : KeepsStoreRules s s.readPixelData := by
  unfold State.readPixelData
  split
  · exact .of_view rfl rfl rfl rfl rfl
  · exact keeps_stretchedAccess high _ rfl

/-- A window command other than FILL is taken. -/
theorem keeps_windowCommand {code : Byte} {h : HeldOp} (high : s.nReset = true) (idle : s.cu.busy = false)
    (command : heldCommand h = true) (noFill : h ≠ .fillStart) (fits : HeldFit s.window.rect h) :
    KeepsStoreRules s ((s.takeCommand code).takeWindowOp h) :=
  keeps_takeWindowOp high (fun hs => sideSound_command command noFill fits idle ((windowSound_iff s).mp hs).1) id

theorem val_paramCoord {ps : List Word} {i : Nat} (h : param ps i ≤ 511) : (paramCoord ps i).val = param ps i := by
  simp only [paramCoord, Fin.ofNat]; omega

/-- Four parameters that are no bad rectangle give a rectangle with its corners in order (R5, R16). -/
theorem rectOrdered_paramRect {ps : List Word} (h : badRect ps = false) : RectOrdered (paramRect ps) := by
  simp only [badRect, Bool.or_eq_false_iff, decide_eq_false_iff_not, not_lt] at h
  obtain ⟨⟨⟨hx, hy⟩, hx1⟩, hy1⟩ := h
  simp only [RectOrdered, paramRect, Fin.le_def]
  rw [val_paramCoord (by omega), val_paramCoord (by omega), val_paramCoord (by omega), val_paramCoord (by omega)]
  exact ⟨hx, hy⟩

/-- Two parameters that name no point outside the window name a point of it (R6). -/
theorem inside_paramCoord {ps : List Word} {r : Rect} (h : outsideWindow ps r = false) :
    Inside r (paramCoord ps 0) (paramCoord ps 1) := by
  simp only [outsideWindow, Bool.or_eq_false_iff, decide_eq_false_iff_not, not_lt] at h
  obtain ⟨⟨⟨hx0, hx1⟩, hy0⟩, hy1⟩ := h
  simp only [Inside, Fin.le_def]
  rw [val_paramCoord (by omega), val_paramCoord (by omega)]
  exact ⟨hx0, hx1, hy0, hy1⟩

variable {t : State}

theorem keeps_execSetWindow (h : execSetWindow s = .next t) : KeepsStoreRules s t := by
  refine keeps_commandWrite h fun ps s high idle _ => ?_
  split
  · exact keeps_of_endsAtOnce idle (endsAtOnce_refuse ..)
  · next good => exact keeps_windowCommand high idle rfl (by simp) (rectOrdered_paramRect (by simpa using good))

theorem keeps_execSetPointer (h : execSetPointer s = .next t) : KeepsStoreRules s t := by
  refine keeps_commandWrite h fun ps s high idle _ => ?_
  split
  · exact keeps_of_endsAtOnce idle (endsAtOnce_refuse ..)
  · next good => exact keeps_windowCommand high idle rfl (by simp) (inside_paramCoord (by simpa using good))

theorem keeps_execSetMode (h : execSetMode s = .next t) : KeepsStoreRules s t := by
  refine keeps_commandWrite h fun ps s high idle _ => ?_
  split
  · exact keeps_of_endsAtOnce idle (endsAtOnce_refuse ..)
  · exact keeps_windowCommand high idle rfl (by simp) trivial

theorem keeps_execFill (h : execFill s = .next t) : KeepsStoreRules s t := by
  refine keeps_commandWrite h fun ps s high idle _ => ?_
  split
  · exact keeps_of_endsAtOnce idle (endsAtOnce_refuse ..)
  · refine keeps_takeWindowOp high (fun hs => ?_) fun ha => arbiterSound_of_links ha rfl Iff.rfl rfl
    obtain ⟨⟨pointer, commands, fit, fill, ready⟩, -, -⟩ := (windowSound_iff s).mp hs
    refine ⟨pointer, ?_, ?_, ?_, ready⟩
    · simp only [idle, Bool.toNat_false] at commands
      simp only [List.countP_append, List.countP_singleton, heldCommand, if_true, State.map_takeCommand,
        State.window_takeCommand]
      show _ = 1
      omega
    · simpa [or_imp, forall_and, HeldFit] using fit
    · simp

/-! ### Map commands, the sweep and SOFT RESET -/

theorem arbiterSound_mapCommand (ha : ArbiterSound s) (m : BandMap) : ArbiterSound (s.mapCommand m) := by
  unfold State.mapCommand
  split <;> exact arbiterSound_of_links ha rfl Iff.rfl rfl

/-- A map command keeps the rules: it ends at once, or its sweep is now the command in progress (R28). -/
theorem keeps_mapCommand {code : Byte} {m : BandMap} (idle : s.cu.busy = false) (sweep : m.sweep = s.map.sweep) :
    KeepsStoreRules s ((s.takeCommand code).mapCommand m) := by
  refine ⟨fun hs => ?_, fun _ ha => arbiterSound_mapCommand (s := s.takeCommand code) ha m⟩
  have none := sweep_of_idle hs idle
  unfold State.mapCommand
  split
  · exact windowSound_of_kept (s := s) rfl idle.symm (by simp [sweep]) hs
  · exact windowSound_of_view (s := s) rfl (by simp [idle, none, State.takeCommand]) hs

theorem linkSideWork_sweepBand (s : State) (w : WallBand) : LinkSideWork s (s.sweepBand w) := .setCells s _

theorem keeps_sweepPass (s : State) : KeepsStoreRules s s.sweepPass := by
  unfold State.sweepPass
  split
  · next changed w rest sweep =>
    have swept := KeepsStoreRules.of_linkSideWork (linkSideWork_sweepBand s w)
    have running : (s.sweepBand w).map.sweep.isSome = true := by simp [State.sweepBand, sweep]
    simp only []
    generalize s.sweepBand w = u at swept running
    split
    · refine swept.trans ⟨fun hu => windowSound_of_view (s := u) rfl ?_ hu, fun _ ha => arbiterSound_of_links ha rfl Iff.rfl rfl⟩
      simp [busy_of_sweep hu running, running, State.complete, State.finish]
    · exact swept.trans (.of_view rfl rfl (by simp [running]) rfl rfl)
  · exact .refl s

theorem linkSideWork_softResetLinks (s : State) : LinkSideWork s ((List.finRange 4).foldl State.softResetLink s) :=
  .foldl State.linkSideWork_softResetLink _ s

theorem softReset_kept (s : State) :
    s.softReset.sideView = s.sideView ∧ s.softReset.cu.busy = s.cu.busy ∧ s.softReset.map.sweep = none := by
  have kept := (linkSideWork_softResetLinks s).kept
  generalize h : (List.finRange 4).foldl State.softResetLink s = u at kept
  simp only [State.sideView, State.softReset, h]
  rw [kept]
  exact ⟨rfl, rfl, trivial⟩

theorem arbiterSound_softReset (ha : ArbiterSound s) : ArbiterSound s.softReset := by
  have links := (linkSideWork_softResetLinks s).arbiterSound ha
  unfold State.softReset
  generalize (List.finRange 4).foldl State.softResetLink s = u at links
  exact arbiterSound_of_links links rfl Iff.rfl rfl

theorem keeps_softReset {code : Byte} (idle : s.cu.busy = false) :
    KeepsStoreRules s ((s.takeCommand code).softReset.complete []) := by
  obtain ⟨view, -, sweep⟩ := softReset_kept (s.takeCommand code)
  have arbiter : ArbiterSound s → ArbiterSound (s.takeCommand code).softReset := arbiterSound_softReset (s := s.takeCommand code)
  generalize (s.takeCommand code).softReset = u at view sweep arbiter
  exact ⟨fun hs => windowSound_of_kept (s := s) view idle.symm (by simp [sweep, sweep_of_idle hs idle]) hs,
    fun _ ha => arbiterSound_of_links (arbiter ha) rfl Iff.rfl rfl⟩

end Accesses

end Sys2Proof.Machine

/-! ### Every command -/

namespace Sys2Proof.Machine

open Sys2Proof.Safety

section Arms

variable {s t : State}

theorem holder_of_holds {r : Requester} (h : s.holds r = true) : s.arbiter.holder = some r := by
  simpa [State.holds] using h

/-- An event that does link-side work. -/
theorem keeps_linkEvent {f : State → State} (h : s.event f = .next t) (hf : ∀ s, LinkSideWork s (f s)) :
    KeepsStoreRules s t := keeps_event h fun _ => .of_linkSideWork (hf s)

theorem linkSideWork_if {p : Prop} [Decidable p] {u : State} (h : p → LinkSideWork s u) :
    LinkSideWork s (if p then u else s) := by
  split
  · next hp => exact h hp
  · exact .refl s

/-! #### Resets and engine steps -/

theorem keeps_execHardResetEnd (h : execHardResetEnd s = .next t) : KeepsStoreRules s t := by
  simp only [execHardResetEnd, Host.Outcome.next.injEq] at h
  subst h
  split
  · exact .refl s
  · next low => exact keeps_beginClear (by simpa using low)

theorem keeps_execStartUpClearRow (h : execStartUpClearRow s = .next t) : KeepsStoreRules s t :=
  keeps_event h fun high => keeps_if fun ⟨op, holds⟩ => keeps_endClearRow high op (holder_of_holds holds)

theorem keeps_execRemapSweepPass (h : execRemapSweepPass s = .next t) : KeepsStoreRules s t :=
  keeps_event h fun _ => keeps_sweepPass s

theorem keeps_execFillRow (h : execFillRow s = .next t) : KeepsStoreRules s t :=
  keeps_event h fun high => keeps_if fun ⟨op, holds⟩ => keeps_endFillRow high op (holder_of_holds holds)

theorem keeps_execWindowWriteLanding (h : execWindowWriteLanding s = .next t) : KeepsStoreRules s t := by
  refine keeps_event h fun high => ?_
  split
  · next op => exact keeps_if fun holds => keeps_land high op (holder_of_holds holds)
  all_goals exact .refl s

theorem keeps_execLatchLoad (h : execLatchLoad s = .next t) : KeepsStoreRules s t := by
  refine keeps_event h fun high => ?_
  split
  · next op => exact keeps_if fun holds => keeps_endLoad high op (holder_of_holds holds)
  all_goals exact .refl s

theorem keeps_execCaptureGrantEnd {k : Link} (h : execCaptureGrantEnd k s = .next t) : KeepsStoreRules s t :=
  keeps_linkEvent h fun s => linkSideWork_if fun holds => s.linkSideWork_endCapture k (holder_of_holds holds)

theorem keeps_execReReadGrantEnd {k : Link} (h : execReReadGrantEnd k s = .next t) : KeepsStoreRules s t :=
  keeps_linkEvent h fun s => linkSideWork_if fun holds => s.linkSideWork_endReRead k (holder_of_holds holds)

theorem keeps_execPresentDeadline (h : execPresentDeadline s = .next t) : KeepsStoreRules s t := by
  refine keeps_linkEvent h fun s => linkSideWork_if fun _ => ?_
  split
  · exact s.linkSideWork_endPresent _ _
  · exact s.linkSideWork_endPresent _ _
  · exact .refl s

/-! #### Engine steps, expiries and notices of the link side -/

theorem keeps_execWalkerExamination (h : execWalkerExamination s = .next t) : KeepsStoreRules s t :=
  keeps_linkEvent h fun s => linkSideWork_if fun _ => s.linkSideWork_examine

theorem keeps_execDispatchSelection {k : Link} (h : execDispatchSelection k s = .next t) : KeepsStoreRules s t :=
  keeps_linkEvent h fun s => s.linkSideWork_select k

theorem keeps_execTransmissionEnd {k : Link} (h : execTransmissionEnd k s = .next t) : KeepsStoreRules s t :=
  keeps_linkEvent h fun _ => .updateLink fun l => l.engine_endTransmission

theorem keeps_execHelloInterval {k : Link} (h : execHelloInterval k s = .next t) : KeepsStoreRules s t :=
  keeps_linkEvent h fun _ => linkSideWork_if fun _ => .updateLink fun l => l.engine_handHello

theorem keeps_execAttemptTimeout {k : Link} (h : execAttemptTimeout k s = .next t) : KeepsStoreRules s t :=
  keeps_linkEvent h fun s => linkSideWork_if fun _ => s.linkSideWork_attemptTimedOut k

theorem keeps_execReplayTimeout {k : Link} (h : execReplayTimeout k s = .next t) : KeepsStoreRules s t :=
  keeps_linkEvent h fun s => linkSideWork_if fun _ => s.linkSideWork_replayTimedOut k

theorem keeps_execReplayRetransmission {k : Link} (h : execReplayRetransmission k s = .next t) : KeepsStoreRules s t :=
  keeps_linkEvent h fun s => s.linkSideWork_retransmit k

theorem keeps_execSilenceTimeout {k : Link} (h : execSilenceTimeout k s = .next t) : KeepsStoreRules s t :=
  keeps_linkEvent h fun s => linkSideWork_if fun _ => s.linkSideWork_loseLink k _ _

theorem keeps_execQueryTimeout (h : execQueryTimeout s = .next t) : KeepsStoreRules s t :=
  keeps_linkEvent h fun s => linkSideWork_if fun _ => s.linkSideWork_endQuery _

theorem keeps_execHelloNotice {k : Link} {seen : Bool} {n : BitVec 3} {capacity restart : Vector Nibble 4}
    (h : execHelloNotice k seen n capacity restart s = .next t) : KeepsStoreRules s t :=
  keeps_linkEvent h fun s => s.linkSideWork_takeHello k seen n capacity restart

theorem keeps_execAckNotice {k : Link} {q : SeqNo} (h : execAckNotice k q s = .next t) : KeepsStoreRules s t :=
  keeps_linkEvent h fun s => s.linkSideWork_notice k fun s => s.linkSideWork_takeAck k q

theorem keeps_execNakNotice {k : Link} {q : SeqNo} (h : execNakNotice k q s = .next t) : KeepsStoreRules s t :=
  keeps_linkEvent h fun s => s.linkSideWork_notice k fun s => s.linkSideWork_takeNak k q

theorem keeps_execTileStatusNotice {k : Link} {p : Position} {freed : Byte} {restart : Nibble} {shown : Byte}
    (h : execTileStatusNotice k p freed restart shown s = .next t) : KeepsStoreRules s t :=
  keeps_linkEvent h fun s => s.linkSideWork_notice k fun s => s.linkSideWork_takeTileStatus k p freed restart shown

theorem keeps_execReportNotice {k : Link} {p : Position} {tag : Byte} {capacity : Nibble} {shown : Byte}
    {restart : Nibble} {word : BitVec 32} (h : execReportNotice k p tag capacity shown restart word s = .next t) :
    KeepsStoreRules s t :=
  keeps_linkEvent h fun s => s.linkSideWork_notice k fun s => s.linkSideWork_takeReport k p tag capacity shown restart word

theorem keeps_execIdleNotice {k : Link} (h : execIdleNotice k s = .next t) : KeepsStoreRules s t :=
  keeps_linkEvent h fun s => s.linkSideWork_notice k .refl

theorem keeps_execInvalidNotice {k : Link} (h : execInvalidNotice k s = .next t) : KeepsStoreRules s t :=
  keeps_linkEvent h fun s => s.linkSideWork_badNotice k

/-! #### Host accesses -/

/-- An access that touches neither the window side nor the store. -/
theorem keeps_otherAccess {f : State → State} (h : s.access f = .next t)
    (hf : ∀ s, (f s).sideView = s.sideView ∧ (f s).cu.busy = s.cu.busy ∧ (f s).map = s.map ∧ (f s).arbiter = s.arbiter ∧
      (f s).links = s.links) : KeepsStoreRules s t :=
  keeps_access h fun s _ =>
    have ⟨view, busy, map, arbiter, links⟩ := hf s
    .of_view view busy (by rw [map]) arbiter links

theorem keeps_execParameterWrite {v : Word} (h : execParameterWrite v s = .next t) : KeepsStoreRules s t := by
  refine keeps_otherAccess h fun s => ⟨rfl, ?_, rfl, rfl, rfl⟩
  simp only [CommandUnit.addParameter]
  split <;> rfl

theorem keeps_execResultRead (h : execResultRead s = .next t) : KeepsStoreRules s t := by
  refine keeps_otherAccess h fun s => ?_
  split <;> exact ⟨rfl, rfl, rfl, rfl, rfl⟩

theorem keeps_execPixelWrite {v : Word} (h : execPixelWrite v s = .next t) : KeepsStoreRules s t :=
  keeps_access h fun _ high => keeps_writePixelData high v

theorem keeps_execPixelRead (h : execPixelRead s = .next t) : KeepsStoreRules s t :=
  keeps_access h fun _ high => keeps_readPixelData high

theorem keeps_execCommandStatusRead (h : execCommandStatusRead s = .next t) : KeepsStoreRules s t :=
  keeps_otherAccess h fun _ => ⟨rfl, rfl, rfl, rfl, rfl⟩

theorem keeps_execAttentionRead (h : execAttentionRead s = .next t) : KeepsStoreRules s t :=
  keeps_otherAccess h fun _ => ⟨rfl, rfl, rfl, rfl, rfl⟩

theorem keeps_execWriteMaskWrite {v : Word} (h : execWriteMaskWrite v s = .next t) : KeepsStoreRules s t :=
  keeps_otherAccess h fun _ => ⟨rfl, rfl, rfl, rfl, rfl⟩

theorem keeps_execInterruptEnableWrite {v : Word} (h : execInterruptEnableWrite v s = .next t) : KeepsStoreRules s t :=
  keeps_otherAccess h fun _ => ⟨rfl, rfl, rfl, rfl, rfl⟩

theorem keeps_execRegisterWrite {location : IgnoredLocation} {v : Word} (h : execRegisterWrite location v s = .next t) :
    KeepsStoreRules s t :=
  keeps_otherAccess h fun _ => ⟨rfl, rfl, rfl, rfl, rfl⟩

theorem keeps_execUnknownCommand {code : Word} (h : execUnknownCommand code s = .next t) : KeepsStoreRules s t := by
  unfold execUnknownCommand at h
  split at h
  · cases h
  · refine keeps_access h fun s _ => ?_
    split
    · exact .of_view rfl rfl rfl rfl rfl
    · next idle => exact keeps_of_endsAtOnce (by simpa using idle) (endsAtOnce_refuse ..)

/-! #### Commands that end at once -/

theorem endsAtOnce_if {p : Prop} [Decidable p] {u v : State} (hu : EndsAtOnce s u) (hv : EndsAtOnce s v) :
    EndsAtOnce s (if p then u else v) := by
  split
  · exact hu
  · exact hv

/-- A command that refuses a parameter out of range. -/
theorem endsAtOnce_refuse_or {p : Prop} [Decidable p] {u : State} {r : ResultCode} (hu : EndsAtOnce s u) :
    EndsAtOnce s (if p then s.refuse r else u) := endsAtOnce_if (endsAtOnce_refuse s r) hu

theorem keeps_execConfigureWall (h : execConfigureWall s = .next t) : KeepsStoreRules s t := by
  refine keeps_commandWrite h fun ps s _ idle _ => ?_
  split
  · exact keeps_of_endsAtOnce idle (endsAtOnce_refuse ..)
  · split
    · exact keeps_of_endsAtOnce idle (endsAtOnce_refuse ..)
    · exact .of_view rfl idle.symm rfl rfl rfl

theorem keeps_execSetTimer (h : execSetTimer s = .next t) : KeepsStoreRules s t := by
  refine keeps_commandWrite h fun ps s _ idle _ => ?_
  split
  · exact keeps_of_endsAtOnce idle (endsAtOnce_refuse ..)
  · split
    · exact keeps_of_endsAtOnce idle (endsAtOnce_refuse ..)
    · exact .of_view rfl idle.symm rfl rfl rfl

theorem keeps_execMapSet (h : execMapSet s = .next t) : KeepsStoreRules s t := by
  refine keeps_commandWrite h fun ps s _ idle _ => ?_
  split
  · exact keeps_of_endsAtOnce idle (endsAtOnce_refuse ..)
  · exact keeps_mapCommand idle rfl

theorem keeps_execSetRollRegion (h : execSetRollRegion s = .next t) : KeepsStoreRules s t := by
  refine keeps_commandWrite h fun ps s _ idle _ => ?_
  split
  · exact keeps_of_endsAtOnce idle (endsAtOnce_refuse ..)
  · exact keeps_mapCommand idle rfl

theorem keeps_execRoll (h : execRoll s = .next t) : KeepsStoreRules s t := by
  refine keeps_commandWrite h fun ps s _ idle _ => ?_
  simp only []
  split
  · exact keeps_of_endsAtOnce idle (endsAtOnce_refuse ..)
  · split
    · exact keeps_of_endsAtOnce idle (endsAtOnce_refuse ..)
    · exact keeps_mapCommand idle rfl

theorem keeps_execTileSet (h : execTileSet s = .next t) : KeepsStoreRules s t :=
  keeps_commandWrite_of_endsAtOnce h fun _ s =>
    endsAtOnce_refuse_or (endsAtOnce_refuse_or ((LinkSideWork.setTile s _ _).endsAtOnce _))

theorem keeps_execTileEnable (h : execTileEnable s = .next t) : KeepsStoreRules s t :=
  keeps_commandWrite_of_endsAtOnce h fun _ s => endsAtOnce_refuse_or (endsAtOnce_refuse_or (endsAtOnce_refuse_or
    (endsAtOnce_refuse_or ((LinkSideWork.setTile s _ _).endsAtOnce _))))

theorem keeps_execTileDisable (h : execTileDisable s = .next t) : KeepsStoreRules s t :=
  keeps_commandWrite_of_endsAtOnce h fun _ s =>
    endsAtOnce_refuse_or (endsAtOnce_if ((s.linkSideWork_disableTile _).endsAtOnce _) (endsAtOnce_refuse ..))

theorem keeps_execTileRead (h : execTileRead s = .next t) : KeepsStoreRules s t :=
  keeps_commandWrite_of_endsAtOnce h fun _ _ => endsAtOnce_refuse_or (endsAtOnce_complete ..)

theorem keeps_execMapRead (h : execMapRead s = .next t) : KeepsStoreRules s t :=
  keeps_commandWrite_of_endsAtOnce h fun _ _ => endsAtOnce_refuse_or (endsAtOnce_complete ..)

theorem keeps_execQueryTile (h : execQueryTile s = .next t) : KeepsStoreRules s t :=
  keeps_commandWrite_of_endsAtOnce h fun _ s => endsAtOnce_refuse_or (endsAtOnce_refuse_or (endsAtOnce_refuse_or
    (endsAtOnce_refuse_or ((s.linkSideWork_startQuery _).endsAtOnce _))))

theorem keeps_execQueryRead (h : execQueryRead s = .next t) : KeepsStoreRules s t :=
  keeps_commandWrite_of_endsAtOnce h fun _ _ => endsAtOnce_complete ..

theorem keeps_execCellRead (h : execCellRead s = .next t) : KeepsStoreRules s t :=
  keeps_commandWrite_of_endsAtOnce h fun _ _ => endsAtOnce_refuse_or (endsAtOnce_complete ..)

theorem keeps_execSetWalker (h : execSetWalker s = .next t) : KeepsStoreRules s t :=
  keeps_commandWrite_of_endsAtOnce h fun _ s => endsAtOnce_refuse_or (LinkSideWork.endsAtOnce (.setWalker s _) _)

theorem keeps_execLinkEnable (h : execLinkEnable s = .next t) : KeepsStoreRules s t := by
  refine keeps_linkCommand h fun k s => ?_
  split
  · exact (s.linkSideWork_freshAttempt k).endsAtOnce _
  all_goals exact endsAtOnce_refuse ..

theorem keeps_execLinkDisable (h : execLinkDisable s = .next t) : KeepsStoreRules s t := by
  refine keeps_linkCommand h fun k s => ?_
  have off : LinkSideWork s (s.updateLink k (·.switchOff)) := .updateLink fun _ => rfl
  split
  · exact endsAtOnce_complete ..
  · exact off.endsAtOnce _
  · exact off.endsAtOnce _
  · exact (s.linkSideWork_loseLink k _ _).endsAtOnce _

theorem keeps_execLinkReset (h : execLinkReset s = .next t) : KeepsStoreRules s t := by
  refine keeps_linkCommand h fun k s => ?_
  split
  · exact endsAtOnce_refuse ..
  · exact (s.linkSideWork_freshAttempt k).endsAtOnce _
  · exact (s.linkSideWork_freshAttempt k).endsAtOnce _
  · exact (s.linkSideWork_loseLink k _ _).endsAtOnce _

theorem keeps_execLinkClearFlags (h : execLinkClearFlags s = .next t) : KeepsStoreRules s t :=
  keeps_linkCommand h fun k s => (LinkSideWork.updateLink (s := s) (k := k) (f := (·.clearFlags)) fun _ => rfl).endsAtOnce _

theorem keeps_execPresent (h : execPresent s = .next t) : KeepsStoreRules s t := by
  refine keeps_commandWrite_of_endsAtOnce h fun _ s => ?_
  split
  · exact endsAtOnce_refuse ..
  · exact endsAtOnce_refuse ..
  · exact endsAtOnce_if (s.linkSideWork_cut.endsAtOnce _) (endsAtOnce_refuse ..)

theorem keeps_execCancelPresent (h : execCancelPresent s = .next t) : KeepsStoreRules s t := by
  refine keeps_commandWrite_of_endsAtOnce h fun _ s => ?_
  split
  · exact (s.linkSideWork_endPresent _ _).endsAtOnce _
  all_goals exact endsAtOnce_refuse ..

theorem keeps_execPresentRead (h : execPresentRead s = .next t) : KeepsStoreRules s t :=
  keeps_commandWrite_of_endsAtOnce h fun _ _ => endsAtOnce_complete ..

theorem keeps_execSoftReset (h : execSoftReset s = .next t) : KeepsStoreRules s t := by
  refine keeps_access h fun s _ => ?_
  split
  · exact .of_view rfl rfl rfl rfl rfl
  · next idle => exact keeps_softReset (by simpa using idle)

end Arms

theorem exec_keepsStoreRules {c : Instr} {s t : State} (h : exec c s = .next t) : KeepsStoreRules s t := by
  cases c with
  | hardReset => cases h; exact keeps_hardReset s
  | hardResetEnd => exact keeps_execHardResetEnd h
  | startUpClearRow => exact keeps_execStartUpClearRow h
  | pixelWrite _ => exact keeps_execPixelWrite h
  | pixelRead => exact keeps_execPixelRead h
  | windowWriteLanding => exact keeps_execWindowWriteLanding h
  | latchLoad => exact keeps_execLatchLoad h
  | fillRow => exact keeps_execFillRow h
  | remapSweepPass => exact keeps_execRemapSweepPass h
  | walkerExamination => exact keeps_execWalkerExamination h
  | dispatchSelection _ => exact keeps_execDispatchSelection h
  | captureGrantEnd _ => exact keeps_execCaptureGrantEnd h
  | transmissionEnd _ => exact keeps_execTransmissionEnd h
  | helloInterval _ => exact keeps_execHelloInterval h
  | attemptTimeout _ => exact keeps_execAttemptTimeout h
  | helloNotice _ _ _ _ _ => exact keeps_execHelloNotice h
  | ackNotice _ _ => exact keeps_execAckNotice h
  | nakNotice _ _ => exact keeps_execNakNotice h
  | tileStatusNotice _ _ _ _ _ => exact keeps_execTileStatusNotice h
  | reportNotice _ _ _ _ _ _ _ => exact keeps_execReportNotice h
  | idleNotice _ => exact keeps_execIdleNotice h
  | invalidNotice _ => exact keeps_execInvalidNotice h
  | replayTimeout _ => exact keeps_execReplayTimeout h
  | replayRetransmission _ => exact keeps_execReplayRetransmission h
  | reReadGrantEnd _ => exact keeps_execReReadGrantEnd h
  | silenceTimeout _ => exact keeps_execSilenceTimeout h
  | queryTimeout => exact keeps_execQueryTimeout h
  | presentDeadline => exact keeps_execPresentDeadline h
  | parameterWrite _ => exact keeps_execParameterWrite h
  | resultRead => exact keeps_execResultRead h
  | commandStatusRead => exact keeps_execCommandStatusRead h
  | attentionRead => exact keeps_execAttentionRead h
  | writeMaskWrite _ => exact keeps_execWriteMaskWrite h
  | interruptEnableWrite _ => exact keeps_execInterruptEnableWrite h
  | registerWrite location v => exact keeps_execRegisterWrite (location := location) (v := v) h
  | unknownCommand _ => exact keeps_execUnknownCommand h
  | configureWall => exact keeps_execConfigureWall h
  | setWindow => exact keeps_execSetWindow h
  | setPointer => exact keeps_execSetPointer h
  | setMode => exact keeps_execSetMode h
  | fill => exact keeps_execFill h
  | mapSet => exact keeps_execMapSet h
  | mapRead => exact keeps_execMapRead h
  | setRollRegion => exact keeps_execSetRollRegion h
  | roll => exact keeps_execRoll h
  | tileSet => exact keeps_execTileSet h
  | tileEnable => exact keeps_execTileEnable h
  | tileDisable => exact keeps_execTileDisable h
  | tileRead => exact keeps_execTileRead h
  | queryTile => exact keeps_execQueryTile h
  | queryRead => exact keeps_execQueryRead h
  | cellRead => exact keeps_execCellRead h
  | setWalker => exact keeps_execSetWalker h
  | linkEnable => exact keeps_execLinkEnable h
  | linkDisable => exact keeps_execLinkDisable h
  | linkReset => exact keeps_execLinkReset h
  | linkClearFlags => exact keeps_execLinkClearFlags h
  | present => exact keeps_execPresent h
  | cancelPresent => exact keeps_execCancelPresent h
  | presentRead => exact keeps_execPresentRead h
  | setTimer => exact keeps_execSetTimer h
  | softReset => exact keeps_execSoftReset h

theorem step_keepsStoreRules {s t : State} (h : step s = .next t) : KeepsStoreRules s t := by
  unfold step at h
  split at h
  · cases h; exact .refl s
  · next c rest _ =>
    exact (KeepsStoreRules.of_view (s := s) (t := { s with pending := rest }) rfl rfl rfl rfl rfl).trans
      (exec_keepsStoreRules h)

/-- Settles O54: the rules go through every arm of `exec`. -/
theorem stepKeepsTheWindowSound : Obligations.StepKeepsTheWindowSound :=
  fun _ _ hs h => (step_keepsStoreRules h).window hs

/-- Settles O55: the same case split, the arbiter's rules under those of the window side. -/
theorem stepKeepsTheArbiterSound : Obligations.StepKeepsTheArbiterSound :=
  fun _ _ hs ha h => (step_keepsStoreRules h).arbiter hs ha

end Sys2Proof.Machine

/-! ## The frame store and the Pixel Window: what each command does -/

namespace Sys2Proof.Machine

open Sys2Proof.Safety

/-! ### The Store Arbiter's choice (Table 1-6) -/

theorem Arbiter.rotation_eq (l : Link) : [l + 1, l + 2, l + 3, l] = (List.finRange 4).map fun d => l + 1 + d := by
  revert l; decide

/-- The rotation takes the first capture engine waiting after the last served link. -/
theorem Arbiter.nextCapture_eq_some {a : Arbiter} (d : Fin 4) (waits : a.captureWaiting[a.lastServed + 1 + d] = true)
    (first : ∀ e : Fin 4, e < d → a.captureWaiting[a.lastServed + 1 + e] = false) :
    a.nextCapture = some (a.lastServed + 1 + d) := by
  rw [Arbiter.nextCapture, Arbiter.rotation_eq, List.find?_map]
  have found : (List.finRange 4).find? ((fun k => a.captureWaiting[k]) ∘ fun d => a.lastServed + 1 + d) = some d := by
    refine List.find?_eq_some_iff_getElem.mpr ⟨waits, d.val, by simp, by simp, fun j hj => ?_⟩
    simpa using first ⟨j, by omega⟩ hj
  rw [found, Option.map_some]

/-- A capture engine that is next is granted, but for a waiting window side after a capture's grant. -/
theorem Arbiter.release_capture {a : Arbiter} {k : Link} (next : a.nextCapture = some k)
    (h : ¬((∃ j, a.holder = some (.capture j)) ∧ a.windowWaiting = true)) : a.release = a.grant (.capture k) := by
  cases holder : a.holder with
  | none => simp [Arbiter.release, next, holder]
  | some r =>
    cases r with
    | window => simp [Arbiter.release, next, holder]
    | capture j =>
      have notWaiting : a.windowWaiting = false := by
        by_contra waiting
        exact h ⟨⟨j, holder⟩, by simpa using waiting⟩
      simp [Arbiter.release, next, holder, notWaiting]

theorem Arbiter.grant_window_eq (a : Arbiter) :
    a.grant .window = { a with holder := some .window, windowWaiting := false } := rfl

theorem Arbiter.release_window_of_capture {a : Arbiter} (held : ∃ j, a.holder = some (.capture j))
    (waiting : a.windowWaiting = true) : a.release = a.grant .window := by
  obtain ⟨j, hj⟩ := held
  simp [Arbiter.release, hj, waiting]

theorem Arbiter.release_window {a : Arbiter} (next : a.nextCapture = none) (waiting : a.windowWaiting = true) :
    a.release = a.grant .window := by
  simp [Arbiter.release, next, waiting]

theorem Arbiter.release_idle {a : Arbiter} (next : a.nextCapture = none) (waiting : a.windowWaiting = false) :
    a.release = { a with holder := none } := by
  simp [Arbiter.release, next, waiting]

theorem Arbiter.request_idle {a : Arbiter} (holder : a.holder = none) (next : a.nextCapture = none)
    (waiting : a.windowWaiting = false) (r : Requester) : a.request r = a.grant r := by
  simp [Arbiter.request, holder, next, waiting]

theorem Arbiter.request_held {a : Arbiter} (holder : a.holder ≠ none) (r : Requester) : a.request r = a.await r := by
  cases h : a.holder with
  | none => exact absurd h holder
  | some _ => simp [Arbiter.request, h]

/-- Settles O17: one lemma per row of Table 1-6. -/
theorem arbiterChoosesByItsTable : Obligations.ArbiterChoosesByItsTable := by
  intro a
  refine ⟨fun held waiting => Arbiter.release_window_of_capture held waiting, ?_, fun none => ?_, fun none => ?_,
    fun none waiting holder => ?_, fun holder => ⟨Arbiter.request_held holder _, fun k => Arbiter.request_held holder _⟩⟩
  · rintro h d k rfl waits first
    exact Arbiter.release_capture (Arbiter.nextCapture_eq_some d waits fun e he => first e _ he rfl) h
  · exact Arbiter.release_window (a.nextCapture_eq_none.mpr none)
  · exact Arbiter.release_idle (a.nextCapture_eq_none.mpr none)
  · have next := a.nextCapture_eq_none.mpr none
    refine ⟨?_, fun k => ?_⟩
    · rw [Arbiter.request_idle holder next waiting, Arbiter.grant_window_eq, ← waiting]
    · have same : a.captureWaiting.set k false = a.captureWaiting := by
        rw [← none k]; exact Vector.set_getElem_self _
      rw [Arbiter.request_idle holder next waiting, Arbiter.grant, same]

end Sys2Proof.Machine

namespace Sys2Proof.Machine

open Sys2Proof.Safety

/-! ### Ends of grants: the start-up clear, the landing of a write, a FILL row (R2, R10, R15, R17, R18) -/

theorem exec_startUpClearRow {s : State} (high : s.nReset = true) (op : s.window.op = .clearRow)
    (holder : s.arbiter.holder = some .window) : exec .startUpClearRow s = .next s.endClearRow := by
  change execStartUpClearRow s = _
  simp [execStartUpClearRow, high, op, State.holds, holder]

theorem exec_windowWriteLanding {s : State} {v : Word} (high : s.nReset = true) (op : s.window.op = .pixelWrite v)
    (holder : s.arbiter.holder = some .window) : exec .windowWriteLanding s = .next (s.land v) := by
  change execWindowWriteLanding s = _
  simp [execWindowWriteLanding, high, op, State.holds, holder]

theorem exec_fillRow {s : State} (high : s.nReset = true) (op : s.window.op = .fillRow)
    (holder : s.arbiter.holder = some .window) : exec .fillRow s = .next s.endFillRow := by
  change execFillRow s = _
  simp [execFillRow, high, op, State.holds, holder]

theorem exec_latchLoad {s : State} {cause : LoadCause} (high : s.nReset = true) (op : s.window.op = .latchLoad cause)
    (holder : s.arbiter.holder = some .window) : exec .latchLoad s = .next (s.endLoad cause) := by
  change execLatchLoad s = _
  simp [execLatchLoad, high, op, State.holds, holder]

theorem eq_ofNat_iff {y : Coord} {n : Nat} (h : n ≤ 511) : y = Fin.ofNat 512 n ↔ y.val = n := by
  simp only [Fin.ext_iff, Fin.ofNat]
  omega

/-- Every bit goes through a mask of ones. -/
theorem maskedWord_ones (old new : Word) : maskedWord 0xFFFF old new = new := by
  have ones : (0xFFFF : Word) = BitVec.allOnes 16 := rfl
  rw [maskedWord, ones, BitVec.and_allOnes, BitVec.not_allOnes, BitVec.and_zero, BitVec.or_zero]

/-- Settles O4: the end of a clear row as one change of the state, its row written through a mask of ones. -/
theorem startUpClearRowZeroesOneRow : Obligations.StartUpClearRowZeroesOneRow := by
  intro s form high op holder row
  refine ⟨_, exec_startUpClearRow high op holder, fun x y => ?_, ?_, fun waiting captures => ?_⟩
  · have whole : (0 : Coord) ≤ x ∧ x ≤ 511 := ⟨Fin.zero_le x, Fin.le_last x⟩
    rw [State.endClearRow_eq, Memory.pixel_writeRow _ _ _ _ _ _ form]
    simp only [eq_ofNat_iff row, whole, and_self, and_true, maskedWord_ones]
  · rw [State.endClearRow_eq]
  · have nobody := s.arbiter.nextCapture_eq_none.mpr captures
    rw [State.endClearRow_eq]
    simp only [Arbiter.release_idle nobody waiting]
    rw [Arbiter.request_idle (a := { s.arbiter with holder := none }) rfl nobody waiting, Arbiter.holder_grant]

/-- The W of a written notification reaches the cells of its span (R27, R66). -/
theorem writeReaches_iff (s : State) (b : StoreBand) (first count : Nat) (t : TileIdx) (w : WallBand) :
    s.writeReaches b first count t w = true ↔ SpanReaches s b first count t w := by
  simp only [State.writeReaches, BandMap.reached, TileRecord.isActive, TileRecord.hasBand, BandMap.spanMeets,
    Bool.and_eq_true, decide_eq_true_eq, beq_iff_eq, SpanReaches]
  tauto

/-- Columns W and M of Table 4-2. -/
theorem changed_change (c : CellRecord) : Changed c c.change := by
  obtain ⟨state, marked⟩ := c
  refine ⟨rfl, ?_, ?_, ?_⟩ <;> cases state <;> simp [CellRecord.change, CellState.onChange]

theorem changedWhere_of_notify {s t : State} {b : StoreBand} {first count : Nat}
    (cells : t.cells = (s.notify b first count).cells) : ChangedWhere s t (SpanReaches s b first count) := by
  intro u w
  have cell : t.cell u w = (s.notify b first count).cell u w := by simp only [State.cell, cells]
  rw [cell, State.cell_notify, ← writeReaches_iff]
  split
  · next reached => exact ⟨fun _ => changed_change _, fun h => absurd reached h⟩
  · next missed => exact ⟨fun h => absurd h missed, fun _ => rfl⟩

/-- Settles O10: the landing as one change of the state; the cells are those of its notification. -/
theorem windowWriteLandsUnderTheMask : Obligations.WindowWriteLandsUnderTheMask := by
  intro v s form high op holder
  refine ⟨_, exec_windowWriteLanding high op holder, fun x y => ?_, changedWhere_of_notify ?_, ?_⟩
  · rw [State.land_eq, Memory.pixel_writePixel _ _ _ _ _ _ _ form]
    split
    · next atPointer => rw [atPointer.1, atPointer.2]
    · rfl
  · rw [State.land_eq]
  · rw [State.land_eq]

theorem lastRowInBand_iff (y y1 : Nat) : lastRowInBand y y1 = true ↔ y = y1 ∨ y % 8 = 7 := by
  simp [lastRowInBand]

theorem bandOfRow_ofNat {n : Nat} (h : n ≤ 511) : bandOfRow (Fin.ofNat 512 n) = Fin.ofNat 64 (n / 8) := by
  simp only [bandOfRow, Fin.ofNat, Nat.mod_eq_of_lt (show n < 512 by omega)]

/-- Settles O14: the end of a FILL row as one change of the state; the cells are those of its notification, if it gives one. -/
theorem fillRowWritesOneRow : Obligations.FillRowWritesOneRow := by
  intro s form high op holder row
  have bound : s.fill.row ≤ 511 := by omega
  refine ⟨_, exec_fillRow high op holder, fun x y => ?_, fun last => changedWhere_of_notify ?_, fun inner => ?_, ?_⟩
  · rw [State.endFillRow_eq, Memory.pixel_writeRow _ _ _ _ _ _ form]
    simp only [eq_ofNat_iff bound]
  · rw [State.endFillRow_eq]
    simp only [(lastRowInBand_iff _ _).mpr last, if_true, bandOfRow_ofNat bound]
  · rw [State.endFillRow_eq]
    simp only [mt (lastRowInBand_iff _ _).mp inner, Bool.false_eq_true, if_false]
  · rw [State.endFillRow_eq]

/-! ### The end of a latch load (R5 to R7, R10 to R12, R17, R18) -/

/-- The end of a latch load: what is held runs on the state whose latch is filled, whose grant has ended and whose operation
has ended. -/
theorem State.endLoad_eq (s : State) (cause : LoadCause) :
    s.endLoad cause = State.runHeld s.window.held
      ((State.releaseGrant { s with window.latch := Memory.pixel s.store s.window.x s.window.y }).loadEnded cause) := by
  cases cause <;> rfl

/-- Settles O11: with nothing held the load's end is what its cause does. -/
theorem latchLoadTakesThePixelAtThePointer : Obligations.LatchLoadTakesThePixelAtThePointer := by
  intro cause s high op holder held
  rw [exec_latchLoad high op holder, State.endLoad_eq, held]
  cases cause with
  | access => simp [State.runHeld, State.loadEnded, State.releaseGrant, held]
  | command => simp [State.runHeld, State.loadEnded, State.releaseGrant, held, State.complete, State.finish, endedOk]
  | fillEnd => simp [State.runHeld, State.loadEnded, State.releaseGrant, held, State.complete, State.finish, endedOk]
  | clearEnd => simp [State.runHeld, State.loadEnded, State.releaseGrant, held]

theorem PixelWindow.advance_held (w : PixelWindow) (l : List HeldOp) :
    ({ w with held := l } : PixelWindow).advance = { w.advance with held := l } := by
  cases order : w.order <;> simp only [PixelWindow.advance, order] <;> split_ifs <;> rfl

/-- What is held runs as it does whatever list the state holds beside it. -/
theorem State.runHeld_held (held : List HeldOp) (s : State) (l : List HeldOp) :
    State.runHeld held { s with window.held := l } = State.runHeld held s := by
  induction held generalizing s with
  | nil => rfl
  | cons op rest ih =>
    cases op with
    | pixelRead =>
      have latched : State.readLatch { s with window.held := l } rest = { s.readLatch rest with window.held := l } := by
        simp only [State.readLatch_eq]
      simp only [State.runHeld, latched, PixelWindow.advance_held]
      split
      · exact ih (s.readLatch rest)
      · rfl
    | setMode o m => exact ih (({ s with window := { s.window with order := o, modify := m } } : State).complete [])
    | pixelWrite v => rfl
    | setWindow r => rfl
    | setPointer x y => rfl
    | fillStart => rfl

/-- Outside modify mode a read gives the latch, advances and asks for a latch load (R11). -/
theorem State.runHeld_pixelRead {s : State} {rest : List HeldOp} (modify : s.window.modify = false) :
    State.runHeld (.pixelRead :: rest) s = { s with
      bus := if s.bus.cycle = .stretchedRead ∧ rest.any HeldOp.isAccess = false then ⟨.none, s.window.latch⟩ else s.bus
      window := { ({ s.window with held := rest } : PixelWindow).advance with op := .latchLoad .access }
      arbiter := s.arbiter.request .window } := by
  rw [PixelWindow.advance_held, State.runHeld, State.readLatch_eq]
  exact if_neg (by simp [modify])

/-- In modify mode a read gives the latch, and what is held behind it goes on (R11). -/
theorem State.runHeld_pixelRead_modify {s : State} {rest : List HeldOp} (modify : s.window.modify = true) :
    State.runHeld (.pixelRead :: rest) s = State.runHeld rest { s with
      bus := if s.bus.cycle = .stretchedRead ∧ rest.any HeldOp.isAccess = false
        then ⟨.none, s.window.latch⟩ else s.bus } := by
  rw [State.runHeld, State.readLatch_eq]
  exact if_pos modify

/-- The Command Unit that a command's OK end without words leaves. -/
theorem State.complete_eq (s : State) : s.complete [] = { s with cu := endedOk s.cu } := rfl

/-- The state on which what is held behind an access or a window command runs at the end of its latch load. -/
theorem State.loadEnded_eq {cause : LoadCause} (h : cause = .access ∨ cause = .command) (s : State) :
    s.loadEnded cause = { s with cu := if cause = .command then endedOk s.cu else s.cu } := by
  rcases h with rfl | rfl
  · simp [State.loadEnded]
  · simp [State.loadEnded, State.complete_eq]

theorem endedOk_endedOk (c : CommandUnit) : endedOk (endedOk c) = endedOk c := rfl

/-- Settles O12: the load's end runs what is held, and what is held runs alike whatever list stands beside it. -/
theorem heldWorkFollowsTheLatchLoad : Obligations.HeldWorkFollowsTheLatchLoad := by
  intro cause h rest s high op cause_eq holder held
  have run : ∀ u : State, u.nReset = true → u.window.op = .latchLoad cause → u.arbiter.holder = some .window →
      exec .latchLoad u = .next (State.runHeld u.window.held { u with
        cu := if cause = .command then endedOk u.cu else u.cu
        window := { u.window with latch := Memory.pixel u.store u.window.x u.window.y }
        arbiter := u.arbiter.release }) := fun u high op holder => by
    rw [exec_latchLoad high op holder, State.endLoad_eq, State.loadEnded_eq cause_eq]
    rfl
  have ran := run s high op holder
  rw [held] at ran
  refine ⟨?_, ?_, ?_, ?_, ?_, ?_, ?_⟩
  · rintro v rfl
    rw [ran]; rfl
  · rintro rfl modify
    rw [ran, State.runHeld_pixelRead]
    exact modify
  · rintro rfl modify
    have goesOn := run { s with
      bus := if s.bus.cycle = .stretchedRead ∧ rest.any HeldOp.isAccess = false
        then ⟨.none, Memory.pixel s.store s.window.x s.window.y⟩ else s.bus
      window := { s.window with held := rest } } high op holder
    have reads : exec .latchLoad s = .next (State.runHeld rest { s with
        bus := if s.bus.cycle = .stretchedRead ∧ rest.any HeldOp.isAccess = false
          then ⟨.none, Memory.pixel s.store s.window.x s.window.y⟩ else s.bus
        cu := if cause = .command then endedOk s.cu else s.cu
        window := { s.window with latch := Memory.pixel s.store s.window.x s.window.y }
        arbiter := s.arbiter.release }) := by
      rw [ran, State.runHeld_pixelRead_modify]
      exact modify
    refine ⟨?_, ?_⟩
    · rw [reads, goesOn, ← State.runHeld_held rest _ rest]
    · rintro rfl
      rw [reads]; rfl
  · rintro r rfl
    rw [ran]; rfl
  · rintro x y rfl
    rw [ran]; rfl
  · rintro o m rfl
    have goesOn := run { s with
      cu := endedOk s.cu, window := { s.window with order := o, modify := m, held := rest } } high op holder
    have ends : exec .latchLoad s = .next (State.runHeld rest { s with
        cu := endedOk s.cu
        window := { s.window with
          latch := Memory.pixel s.store s.window.x s.window.y, order := o, modify := m }
        arbiter := s.arbiter.release }) := by
      rw [ran]
      simp only [State.runHeld, State.complete_eq]
      split <;> rfl
    refine ⟨?_, ?_⟩
    · rw [ends, goesOn, ← State.runHeld_held rest _ rest]
      simp only [endedOk_endedOk, ite_self]
    · rintro rfl
      rw [ends]; rfl
  · rintro rfl
    rw [ran]; rfl

end Sys2Proof.Machine

namespace Sys2Proof.Machine

open Sys2Proof.Safety

/-! ### What the window side takes (R12) -/

section WindowSide

variable {s : State}

/-- A free window side carries an operation out at once. -/
theorem State.takeWindowOp_free (free : WindowFree s) (op : HeldOp) : s.takeWindowOp op = State.runHeld [op] s := by
  obtain ⟨idle, held⟩ := free
  simp [State.takeWindowOp, idle, held]

/-- A window side that is not free holds an operation behind what it has. -/
theorem State.takeWindowOp_busy (busy : s.window.op ≠ .idle) (op : HeldOp) :
    s.takeWindowOp op = { s with window := { s.window with held := s.window.held ++ [op] } } := if_neg busy

theorem windowFree_hostAccess (free : WindowFree s) : WindowFree s.hostAccess := by
  simpa [WindowFree] using free

theorem State.runHeld_nil_of_free (free : WindowFree s) : State.runHeld [] s = s := by
  obtain ⟨idle, held⟩ := free
  simp [State.runHeld, ← idle, ← held]

theorem State.pixelsClosed_iff (s : State) : s.pixelsClosed = true ↔ s.fill.running = true ∨ s.notReady = true := by
  simp [State.pixelsClosed]

theorem State.pixelsOpen (noFill : s.fill.running = false) (ready : s.notReady = false) : ¬ s.pixelsClosed = true := by
  simp [State.pixelsClosed_iff, noFill, ready]

/-! ### Pixel accesses (R10 to R13, R21) -/

theorem State.writePixelData_open (noFill : s.fill.running = false) (ready : s.notReady = false) (v : Word) :
    s.writePixelData v = ({ s with bus := { s.bus with cycle := .stretchedWrite } } : State).takeWindowOp (.pixelWrite v) :=
  if_neg (State.pixelsOpen noFill ready)

theorem State.readPixelData_open (noFill : s.fill.running = false) (ready : s.notReady = false) :
    s.readPixelData = ({ s with bus := { s.bus with cycle := .stretchedRead } } : State).takeWindowOp .pixelRead :=
  if_neg (State.pixelsOpen noFill ready)

/-- A free window side turns a pixel write into its request of the store (R10). -/
theorem State.takeWindowOp_pixelWrite (free : WindowFree s) (v : Word) : s.takeWindowOp (.pixelWrite v) =
    { s with window := { s.window with op := .pixelWrite v }, arbiter := s.arbiter.request .window } := by
  simp only [State.takeWindowOp_free free, State.runHeld, State.startWindowOp, State.request, free.2]

/-- In modify mode a free window side gives the latch and stays as it is (R11). -/
theorem State.takeWindowOp_pixelRead_modify (free : WindowFree s) (cycle : s.bus.cycle = .stretchedRead)
    (modify : s.window.modify = true) :
    s.takeWindowOp .pixelRead = { s with bus := ⟨.none, s.window.latch⟩ } := by
  rw [State.takeWindowOp_free free, State.runHeld_pixelRead_modify modify, if_pos ⟨cycle, rfl⟩]
  exact State.runHeld_nil_of_free free

/-- Outside modify mode a free window side gives the latch, advances and asks for a latch load (R11). -/
theorem State.takeWindowOp_pixelRead (free : WindowFree s) (cycle : s.bus.cycle = .stretchedRead)
    (modify : s.window.modify = false) :
    s.takeWindowOp .pixelRead = { s with
      bus := ⟨.none, s.window.latch⟩
      window := { s.window.advance with op := .latchLoad .access }
      arbiter := s.arbiter.request .window } := by
  have noneHeld : ({ s.window with held := [] } : PixelWindow) = s.window := by rw [← free.2]
  rw [State.takeWindowOp_free free, State.runHeld_pixelRead modify, if_pos ⟨cycle, rfl⟩, noneHeld]

end WindowSide

/-- Settles O8: by whether pixel accesses are closed and the window side is free. -/
theorem pixelWriteAsksForTheStore : Obligations.PixelWriteAsksForTheStore := by
  intro v s high
  have run : exec (.pixelWrite v) s = .next (s.hostAccess.writePixelData v) :=
    s.access_running (fun s => s.writePixelData v) high
  have runOpen (noFill : s.fill.running = false) (ready : s.notReady = false) := run.trans
    (congrArg _ (State.writePixelData_open (s := s.hostAccess) (by simpa) (by simpa) v))
  refine ⟨fun noFill ready free => ?_, fun noFill ready busy => ?_, fun closed => ?_⟩
  · rw [runOpen noFill ready, State.takeWindowOp_pixelWrite]
    · simp
    · exact windowFree_hostAccess free
  · rw [runOpen noFill ready, State.takeWindowOp_busy]
    · simp
    · simpa using busy
  · rw [run, State.writePixelData, if_pos ((State.pixelsClosed_iff _).mpr (by simpa using closed))]
    simp

/-- Settles O9: by whether pixel accesses are closed, the window side is free and the mode. -/
theorem pixelReadGivesTheLatch : Obligations.PixelReadGivesTheLatch := by
  intro s high
  have run : exec .pixelRead s = .next s.hostAccess.readPixelData := s.access_running State.readPixelData high
  have runOpen (noFill : s.fill.running = false) (ready : s.notReady = false) := run.trans
    (congrArg _ (State.readPixelData_open (s := s.hostAccess) (by simpa) (by simpa)))
  refine ⟨fun noFill ready free modify => ?_, fun noFill ready free modify => ?_, fun noFill ready busy => ?_,
    fun closed => ?_⟩
  · rw [runOpen noFill ready, State.takeWindowOp_pixelRead_modify _ rfl]
    · simp
    · simpa using modify
    · exact windowFree_hostAccess free
  · rw [runOpen noFill ready, State.takeWindowOp_pixelRead _ rfl]
    · simp
    · simpa using modify
    · exact windowFree_hostAccess free
  · rw [runOpen noFill ready, State.takeWindowOp_busy]
    · simp
    · simpa using busy
  · rw [run, State.readPixelData, if_pos ((State.pixelsClosed_iff _).mpr (by simpa using closed))]
    simp [State.deliver]

end Sys2Proof.Machine

namespace Sys2Proof.Machine

open Sys2Proof.Safety

/-! ### Window commands and FILL (R5 to R7, R13, R16) -/

section WindowCommands

variable {s : State}

/-- A free window side turns a FILL into the request of its first row (R17). -/
theorem State.takeWindowOp_fillStart (free : WindowFree s) : s.takeWindowOp .fillStart =
    { s with window := { s.window with op := .fillRow }, arbiter := s.arbiter.request .window } := by
  simp only [State.takeWindowOp_free free, State.runHeld, State.startWindowOp, State.request, free.2]

/-- A free window side takes a new window and asks for its latch load (R5). -/
theorem State.takeWindowOp_setWindow (free : WindowFree s) (r : Rect) : s.takeWindowOp (.setWindow r) = { s with
    window := { s.window with
      rect := r, x := r.x0, y := r.y0, wrapped := false, windowBusy := false, op := .latchLoad .command }
    arbiter := s.arbiter.request .window } := by
  simp only [State.takeWindowOp_free free, State.runHeld, State.startWindowOp, State.request, free.2]

/-- A free window side takes a new pointer and asks for its latch load (R6). -/
theorem State.takeWindowOp_setPointer (free : WindowFree s) (x y : Coord) : s.takeWindowOp (.setPointer x y) = { s with
    window := { s.window with x := x, y := y, wrapped := false, op := .latchLoad .command }
    arbiter := s.arbiter.request .window } := by
  simp only [State.takeWindowOp_free free, State.runHeld, State.startWindowOp, State.request, free.2]

/-- A free window side takes new modes, and their command ends (R7). -/
theorem State.takeWindowOp_setMode (free : WindowFree s) (o : Order) (m : Bool) : s.takeWindowOp (.setMode o m) =
    ({ s with window := { s.window with order := o, modify := m } } : State).complete [] := by
  rw [State.takeWindowOp_free free]
  exact State.runHeld_nil_of_free free

/-- The state on which an accepted command's own rule runs. -/
theorem State.takeCommand_hostAccess (s : State) (code : Byte) :
    s.hostAccess.takeCommand code = { s.hostAccess with cu := running s code } := by
  simp [State.takeCommand, running]

theorem State.refuse_hostAccess_takeCommand (s : State) (code : Byte) (r : ResultCode) :
    (s.hostAccess.takeCommand code).refuse r = { s.hostAccess with cu := ended s code r [] } := by
  simp [State.refuse, State.finish_takeCommand, ended]

theorem windowFree_taken (free : WindowFree s) (code : Byte) : WindowFree (s.hostAccess.takeCommand code) := by
  simpa [WindowFree] using free

/-- Behind other work an accepted command's operation is held and the unit is BUSY with the command (R12). -/
theorem State.takeWindowOp_taken_busy (busy : s.window.op ≠ .idle) (code : Byte) (op : HeldOp) :
    (s.hostAccess.takeCommand code).takeWindowOp op = { s.hostAccess with
      cu := running s code, window := { s.window with held := s.window.held ++ [op] } } := by
  rw [State.takeCommand_hostAccess, State.takeWindowOp_busy]
  · simp only [State.window_hostAccess]
  · simpa using busy

/-- Four words are a bad rectangle exactly when they name none (R5, R16). -/
theorem badRect_iff (x0 y0 x1 y1 : Word) (rest : List Word) :
    badRect (x0 :: y0 :: x1 :: y1 :: rest) = true ↔ ¬ GoodRect x0 y0 x1 y1 := by
  simp only [badRect, param, List.getD_cons_zero, List.getD_cons_succ, Bool.or_eq_true, decide_eq_true_eq, GoodRect]
  omega

end WindowCommands

theorem coord_val {v : Word} (h : v.toNat ≤ 511) : (coord v).val = v.toNat := Nat.mod_eq_of_lt (by omega)

/-- Two words name a point outside the window (R6). -/
theorem outsideWindow_iff (x y : Word) (r : Rect) : outsideWindow [x, y] r = true ↔
    ¬(r.x0.val ≤ x.toNat ∧ x.toNat ≤ r.x1.val ∧ r.y0.val ≤ y.toNat ∧ y.toNat ≤ r.y1.val) := by
  simp only [outsideWindow, param, List.getD_cons_zero, List.getD_cons_succ, Bool.or_eq_true, decide_eq_true_eq]
  omega

/-- Settles O15: the rule of an accepted FILL, by its rectangle and the window side. -/
theorem fillRecordsItsWorkAndRuns : Obligations.FillRecordsItsWorkAndRuns := by
  intro x0 y0 x1 y1 v s accepted f
  have run : exec .fill s = .next _ := s.commandWrite_accepted _ _ _ _ accepted rfl
  refine ⟨fun bad => ?_, fun good free => ?_, fun good busy => ?_⟩
  · rw [run, if_pos ((badRect_iff ..).mpr bad), State.refuse_hostAccess_takeCommand]
  all_goals
    have row : y0.toNat = (coord y0).val := (coord_val (by obtain ⟨-, hy, -, hy1⟩ := good; omega)).symm
    rw [run, if_neg (by simpa [badRect_iff] using good), State.takeCommand_hostAccess]
  · rw [State.takeWindowOp_fillStart]
    · simp only [f, row, State.window_hostAccess, State.fill_hostAccess, State.arbiter_hostAccess]
      rfl
    · exact windowFree_hostAccess free
  · rw [State.takeWindowOp_busy]
    · simp only [f, row, State.window_hostAccess, State.fill_hostAccess]
      rfl
    · simpa using busy

/-- The modes of two words that are 0 or 1 (R7). -/
theorem modeOfParams (o m : Word) :
    HeldOp.setMode (if param [o, m] 0 = 0 then .rows else .columns) (param [o, m] 1 == 1) =
      .setMode (if o = 0 then .rows else .columns) (m == 1) := by
  have order : param [o, m] 0 = 0 ↔ o = 0 := BitVec.toNat_inj (x := o) (y := 0)
  have modify : (param [o, m] 1 == 1) = (m == 1) := by
    rw [Bool.eq_iff_iff, beq_iff_eq, beq_iff_eq]
    exact BitVec.toNat_inj (x := m) (y := 1)
  simp only [order, modify]

/-- Settles O16: the rule of each accepted command, by its parameters and the window side. -/
theorem windowCommandsTakeEffectInTurn : Obligations.WindowCommandsTakeEffectInTurn := by
  refine ⟨fun x0 y0 x1 y1 s accepted => ?_, fun x y s accepted => ?_, fun o m s accepted => ?_⟩
  · have run : exec .setWindow s = .next _ := s.commandWrite_accepted _ _ _ _ accepted rfl
    have taken (good : GoodRect x0 y0 x1 y1) := run.trans (congrArg _ (if_neg ((badRect_iff ..).not_left.mpr good)))
    refine ⟨fun bad => ?_, fun good free => ?_, fun good busy => ?_⟩
    · rw [run, if_pos ((badRect_iff ..).mpr bad), State.refuse_hostAccess_takeCommand]
    · rw [taken good, State.takeWindowOp_setWindow (windowFree_taken free _), State.takeCommand_hostAccess]
      simp only [State.window_hostAccess, State.arbiter_hostAccess]
      rfl
    · rw [taken good, State.takeWindowOp_taken_busy busy]
      rfl
  · intro good
    have run : exec .setPointer s = .next _ := s.commandWrite_accepted _ _ _ _ accepted rfl
    simp only [State.window_takeCommand, State.window_hostAccess] at run
    have taken (h : good) := run.trans (congrArg _ (if_neg ((outsideWindow_iff ..).not_left.mpr h)))
    refine ⟨fun bad => ?_, fun h free => ?_, fun h busy => ?_⟩
    · rw [run, if_pos ((outsideWindow_iff ..).mpr bad), State.refuse_hostAccess_takeCommand]
    · rw [taken h, State.takeWindowOp_setPointer (windowFree_taken free _), State.takeCommand_hostAccess]
      simp only [State.window_hostAccess, State.arbiter_hostAccess]
      rfl
    · rw [taken h, State.takeWindowOp_taken_busy busy]
      rfl
  · intro order
    have run : exec .setMode s = .next (if 1 < o.toNat ∨ 1 < m.toNat then (s.hostAccess.takeCommand 0x04).refuse .range
        else (s.hostAccess.takeCommand 0x04).takeWindowOp (.setMode order (m == 1))) := by
      rw [← modeOfParams]
      exact s.commandWrite_accepted _ _ _ _ accepted rfl
    refine ⟨fun bad => ?_, fun smallOrder smallMode free => ?_, fun smallOrder smallMode busy => ?_⟩
    · rw [run, if_pos bad, State.refuse_hostAccess_takeCommand]
    · rw [run, if_neg (by omega), State.takeWindowOp_setMode (windowFree_taken free _), State.takeCommand_hostAccess]
      simp only [State.window_hostAccess]
      rfl
    · rw [run, if_neg (by omega), State.takeWindowOp_taken_busy busy]

end Sys2Proof.Machine

namespace Sys2Proof.Machine

open Sys2Proof.Safety

/-! ### Many advances of the pointer (R9) -/

theorem divMod_succ_inside {n d : Nat} (h : n % d + 1 < d) : (n + 1) / d = n / d ∧ (n + 1) % d = n % d + 1 := by
  have split := Nat.mod_add_div n d
  exact (Nat.div_mod_unique (by omega)).mpr ⟨by omega, h⟩

theorem divMod_succ_last {n d : Nat} (h : n % d + 1 = d) : (n + 1) / d = n / d + 1 ∧ (n + 1) % d = 0 := by
  have split := Nat.mod_add_div n d
  have next := Nat.mul_add_one d (n / d)
  exact (Nat.div_mod_unique (by omega)).mpr ⟨by omega, by omega⟩

/-- The number of columns of a rectangle whose corners are in order. -/
def Rect.width (r : Rect) : Nat := r.x1.val - r.x0.val + 1

/-- The number of rows of a rectangle whose corners are in order. -/
def Rect.height (r : Rect) : Nat := r.y1.val - r.y0.val + 1

/-- The window with its pointer at column i and row j of its rectangle. -/
def PixelWindow.pointAt (w : PixelWindow) (i j : Nat) : PixelWindow :=
  { w with x := Fin.ofNat 512 (w.rect.x0.val + i), y := Fin.ofNat 512 (w.rect.y0.val + j) }

/-- The window with rows and columns exchanged. -/
def PixelWindow.transpose (w : PixelWindow) : PixelWindow := { w with
  rect := ⟨w.rect.y0, w.rect.x0, w.rect.y1, w.rect.x1⟩, x := w.y, y := w.x
  order := match w.order with
    | .rows => .columns
    | .columns => .rows }

/-- Columns top to bottom are the rows of the exchanged window. -/
theorem PixelWindow.advance_transpose (w : PixelWindow) : w.transpose.advance = w.advance.transpose := by
  cases order : w.order <;> simp only [PixelWindow.advance, PixelWindow.transpose, order] <;> split_ifs <;> rfl

theorem PixelWindow.transpose_transpose (w : PixelWindow) : w.transpose.transpose = w := by
  obtain ⟨⟨_, _, _, _⟩, _, _, order⟩ := w
  cases order <;> rfl

theorem PixelWindow.transpose_pointAt (w : PixelWindow) (i j : Nat) : (w.transpose.pointAt i j).transpose = w.pointAt j i :=
  congrArg (PixelWindow.pointAt · j i) w.transpose_transpose

theorem nextCoord_ofNat (n : Nat) : nextCoord (Fin.ofNat 512 n) = Fin.ofNat 512 (n + 1) := by
  simp [nextCoord, Fin.ofNat]

section Rows

variable {w : PixelWindow} {i j : Nat}

theorem PixelWindow.val_pointAt (ordered : RectOrdered w.rect) (hi : i < w.rect.width) (hj : j < w.rect.height) :
    (w.pointAt i j).x.val = w.rect.x0.val + i ∧ (w.pointAt i j).y.val = w.rect.y0.val + j := by
  simp only [RectOrdered, Fin.le_def] at ordered
  simp only [Rect.width, Rect.height] at hi hj
  exact ⟨Nat.mod_eq_of_lt (by omega), Nat.mod_eq_of_lt (by omega)⟩

/-- In rows an advance goes one column to the right, after the last column to the first one of the next row, and after the
last position to the first one with the wrapped flag set. -/
theorem PixelWindow.advance_pointAt (rows : w.order = .rows) (ordered : RectOrdered w.rect) (hi : i < w.rect.width)
    (hj : j < w.rect.height) :
    (w.pointAt i j).advance =
      if i + 1 < w.rect.width then w.pointAt (i + 1) j
      else if j + 1 < w.rect.height then w.pointAt 0 (j + 1)
      else { w with x := w.rect.x0, y := w.rect.y0, wrapped := true } := by
  obtain ⟨column, row⟩ := PixelWindow.val_pointAt ordered hi hj
  have notLastColumn : (w.pointAt i j).x.val + 1 ≤ w.rect.x1.val ↔ i + 1 < w.rect.width := by
    rw [column, Rect.width]; omega
  have notLastRow : (w.pointAt i j).y.val + 1 ≤ w.rect.y1.val ↔ j + 1 < w.rect.height := by
    rw [row, Rect.height]; omega
  have order : (w.pointAt i j).order = .rows := rows
  have rect : (w.pointAt i j).rect = w.rect := rfl
  simp only [PixelWindow.advance, order, rect, notLastColumn, notLastRow]
  split_ifs <;> simp only [PixelWindow.pointAt, rows, nextCoord_ofNat, Nat.add_assoc, Nat.add_zero, Fin.ofNat_val_eq_self]

/-- In rows n advances from the first position lead to column n % width of row n / width. -/
theorem PixelWindow.iterate_advance_rows (rows : w.order = .rows) (ordered : RectOrdered w.rect)
    (first : w.x = w.rect.x0) (top : w.y = w.rect.y0) (n : Nat) (h : n < w.rect.width * w.rect.height) :
    PixelWindow.advance^[n] w = w.pointAt (n % w.rect.width) (n / w.rect.width) := by
  induction n with
  | zero => simp [PixelWindow.pointAt, ← first, ← top]
  | succ n ih =>
    have column : n % w.rect.width < w.rect.width := Nat.mod_lt _ (Nat.succ_pos _)
    have row : n / w.rect.width < w.rect.height := Nat.div_lt_of_lt_mul (by omega)
    rw [Function.iterate_succ_apply', ih (by omega), PixelWindow.advance_pointAt rows ordered column row]
    split
    · next inside =>
      obtain ⟨sameRow, nextColumn⟩ := divMod_succ_inside inside
      rw [sameRow, nextColumn]
    · next last =>
      obtain ⟨nextRow, firstColumn⟩ := divMod_succ_last (n := n) (d := w.rect.width) (by omega)
      have below : (n + 1) / w.rect.width < w.rect.height := Nat.div_lt_of_lt_mul h
      rw [nextRow] at below
      rw [if_pos below, nextRow, firstColumn]

theorem PixelWindow.val_pointAt_divMod (ordered : RectOrdered w.rect) {n : Nat} (h : n < w.rect.width * w.rect.height) :
    (w.pointAt (n % w.rect.width) (n / w.rect.width)).x.val = w.rect.x0.val + n % w.rect.width ∧
    (w.pointAt (n % w.rect.width) (n / w.rect.width)).y.val = w.rect.y0.val + n / w.rect.width :=
  PixelWindow.val_pointAt ordered (Nat.mod_lt _ (Nat.succ_pos _)) (Nat.div_lt_of_lt_mul h)

/-- In rows a whole pass returns to the first position with the wrapped flag set. -/
theorem PixelWindow.iterate_advance_rows_wraps (rows : w.order = .rows) (ordered : RectOrdered w.rect)
    (first : w.x = w.rect.x0) (top : w.y = w.rect.y0) :
    PixelWindow.advance^[w.rect.width * w.rect.height] w = { w with wrapped := true } := by
  have widthPos : 0 < w.rect.width := Nat.succ_pos _
  have heightPos : 0 < w.rect.height := Nat.succ_pos _
  obtain ⟨n, hn⟩ : ∃ n, w.rect.width * w.rect.height = n + 1 := ⟨_, (Nat.succ_pred_eq_of_pos (by positivity)).symm⟩
  have unfolded : (w.rect.width - 1) + w.rect.width * (w.rect.height - 1) = n := by
    have := Nat.mul_sub_one w.rect.width w.rect.height
    have := Nat.le_mul_of_pos_right w.rect.width heightPos
    omega
  obtain ⟨row, column⟩ := (Nat.div_mod_unique widthPos).mpr ⟨unfolded, Nat.sub_lt widthPos Nat.one_pos⟩
  rw [hn, Function.iterate_succ_apply', PixelWindow.iterate_advance_rows rows ordered first top n (by omega), row, column,
    PixelWindow.advance_pointAt rows ordered (by omega) (by omega), if_neg (by omega), if_neg (by omega), ← first, ← top]

end Rows

/-- Settles O13: a pass in rows is counted position by position, and a pass in columns is one in rows of the exchanged window. -/
theorem advanceVisitsTheWholeWindow : Obligations.AdvanceVisitsTheWholeWindow := by
  intro w ordered first top width height
  obtain rows | columns : w.order = .rows ∨ w.order = .columns := by cases w.order <;> simp
  · refine ⟨fun n h => ?_, PixelWindow.iterate_advance_rows_wraps rows ordered first top⟩
    simp only [PixelWindow.iterate_advance_rows rows ordered first top n h]
    exact ⟨rfl, fun _ => PixelWindow.val_pointAt_divMod ordered h, fun columns => by simp [rows] at columns⟩
  · have exchange (n : Nat) : PixelWindow.advance^[n] w = (PixelWindow.advance^[n] w.transpose).transpose := by
      rw [← Function.Semiconj.iterate_right (f := PixelWindow.transpose) (fun v => v.advance_transpose.symm) n w]
      exact (PixelWindow.transpose_transpose _).symm
    have rows : w.transpose.order = .rows := by simp [PixelWindow.transpose, columns]
    have area : width * height = w.transpose.rect.width * w.transpose.rect.height := Nat.mul_comm ..
    refine ⟨fun n h => ?_, ?_⟩
    · rw [area] at h
      obtain ⟨row, column⟩ := PixelWindow.val_pointAt_divMod (w := w.transpose) ordered.symm h
      simp only [exchange, PixelWindow.iterate_advance_rows rows ordered.symm top first n h, PixelWindow.transpose_pointAt]
      exact ⟨rfl, fun rows => by simp [rows] at columns, fun _ => ⟨column, row⟩⟩
    · rw [area, exchange, PixelWindow.iterate_advance_rows_wraps rows ordered.symm top first]
      exact congrArg (fun v : PixelWindow => { v with wrapped := true }) w.transpose_transpose

end Sys2Proof.Machine

namespace Sys2Proof.Machine

open Sys2Proof.Safety

/-! ### The totality of the well-formed commands (R2, R176, R179) -/

/-- Every well-formed command but the two of the reset pin is an event of the running part. -/
theorem exec_eq_event {c : Instr} (wellFormed : c.WellFormed = true) (notReset : c ≠ .hardReset) (notEnd : c ≠ .hardResetEnd) :
    ∃ f : State → State, ∀ s, exec c s = s.event f := by
  cases c with
  | hardReset => exact absurd rfl notReset
  | hardResetEnd => exact absurd rfl notEnd
  | unknownCommand code => exact ⟨_, fun s => if_neg (by simpa [Instr.WellFormed] using wellFormed)⟩
  | _ => exact ⟨_, fun s => rfl⟩

/-- Settles O2: every well-formed command but the two of the reset pin is an event of the running part. -/
theorem everyWellFormedCommandHasANextState : Obligations.EveryWellFormedCommandHasANextState := by
  refine fun c s => ⟨fun wellFormed => ?_, fun illFormed => ?_⟩
  · by_cases notReset : c = .hardReset
    · exact ⟨s.hardReset, by rw [notReset]; rfl, fun _ h => absurd notReset h⟩
    by_cases notEnd : c = .hardResetEnd
    · exact ⟨_, by rw [notEnd]; rfl, fun _ _ h => absurd notEnd h⟩
    obtain ⟨f, event⟩ := exec_eq_event wellFormed notReset notEnd
    exact ⟨_, event s, fun low _ _ => if_neg (by simp [low])⟩
  · cases c with
    | unknownCommand code => exact if_pos (by simpa [Instr.WellFormed] using illFormed)
    | _ => cases illFormed

/-! ### The reset pin (R2) -/

/-- Settles O3: both events of the pin evaluated; the clear is granted at once at an idle store. -/
theorem resetPinRestoresAndStarts : Obligations.ResetPinRestoresAndStarts := by
  refine ⟨fun s => ⟨s.hardReset, rfl, rfl, rfl, rfl⟩, fun s low holder waiting captures => ?_, fun s high => ?_, ?_⟩
  · have nobody := s.arbiter.nextCapture_eq_none.mpr captures
    have granted : s.arbiter.request .window = { s.arbiter with holder := some .window } := by
      rw [Arbiter.request_idle holder nobody waiting, Arbiter.grant_window_eq, ← waiting]
    have run : exec .hardResetEnd s = .next ({ s with nReset := true } : State).beginClear := by
      change execHardResetEnd s = _
      simp [execHardResetEnd, low]
    rw [run, ← granted]
    rfl
  · change execHardResetEnd s = _
    simp [execHardResetEnd, high]
  · rfl

end Sys2Proof.Machine

namespace Sys2Proof.Machine

open Sys2Proof.Safety

/-! ### The host's cycle beside the window side's work (R21) -/

/-- The state with another bus and another counter of free values: what the end of a host cycle changes. -/
def State.withHost (s : State) (b : Bus) (n : Nat) : State := { s with bus := b, freeCount := n }

theorem State.hostAccess_eq_withHost (s : State) : s.hostAccess = s.withHost s.hostAccess.bus s.hostAccess.freeCount := by
  unfold State.hostAccess; split <;> rfl

theorem State.readLocation_withHost (s : State) (b : Bus) (n : Nat) (a : Fin 32) :
    (s.withHost b n).readLocation a = s.readLocation a := rfl

/-- An effect that the host's cycle changes in nothing but the cycle, and that leaves a bus without a cycle as it is. -/
structure IgnoresHost (f : State → State) : Prop where
  rest : ∀ s b n b' n', (f (s.withHost b n)).withHost b' n' = (f s).withHost b' n'
  bus : ∀ s, s.bus.cycle = .none → (f s).bus = s.bus

theorem State.readLatch_of_no_cycle {s : State} (h : s.bus.cycle = .none) (rest : List HeldOp) : s.readLatch rest = s :=
  if_neg (by simp [h])

/-- What is held is carried out alike whatever cycle the host holds. -/
theorem ignoresHost_runHeld (held : List HeldOp) : IgnoresHost (State.runHeld held) := by
  induction held with
  | nil => exact ⟨fun _ _ _ _ _ => rfl, fun _ _ => rfl⟩
  | cons op held ih =>
    obtain ⟨rest, bus⟩ := ih
    cases op with
    | pixelRead =>
      refine ⟨fun s b n b' n' => ?_, fun s settled => ?_⟩
      · simp only [State.runHeld, State.readLatch_eq]
        show State.withHost (if s.window.modify = true then _ else _) b' n' = _
        split
        · exact (rest s _ n b' n').trans (rest s _ s.freeCount b' n').symm
        · rfl
      · simp only [State.runHeld, State.readLatch_of_no_cycle settled]
        split
        · exact bus s settled
        · rfl
    | setMode o m =>
      exact ⟨fun s b n b' n' => rest (({ s with window := { s.window with order := o, modify := m } } : State).complete []) b n b' n',
        fun s settled => bus (({ s with window := { s.window with order := o, modify := m } } : State).complete []) settled⟩
    | pixelWrite v => exact ⟨fun _ _ _ _ _ => rfl, fun _ _ => rfl⟩
    | setWindow r => exact ⟨fun _ _ _ _ _ => rfl, fun _ _ => rfl⟩
    | setPointer x y => exact ⟨fun _ _ _ _ _ => rfl, fun _ _ => rfl⟩
    | fillStart => exact ⟨fun _ _ _ _ _ => rfl, fun _ _ => rfl⟩

theorem ignoresHost_endLoad (cause : LoadCause) : IgnoresHost fun s => s.endLoad cause where
  rest s b n b' n' := by
    have run := (ignoresHost_runHeld s.window.held).rest ((State.releaseGrant { s with
      window := { s.window with latch := Memory.pixel s.store s.window.x s.window.y } }).loadEnded cause) b n b' n'
    simp only [State.endLoad_eq]
    cases cause <;> exact run
  bus s settled := by
    have run := (ignoresHost_runHeld s.window.held).bus ((State.releaseGrant { s with
      window := { s.window with latch := Memory.pixel s.store s.window.x s.window.y } }).loadEnded cause)
    simp only [State.endLoad_eq]
    cases cause <;> exact run settled

theorem ignoresHost_land (v : Word) : IgnoresHost fun s => s.land v where
  rest s b n b' n' := by
    simp only [State.land_eq]
    rfl
  bus s settled := by
    simp only [State.land_eq, settled]
    rfl

theorem ignoresHost_id : IgnoresHost id := ⟨fun _ _ _ _ _ => rfl, fun _ _ => rfl⟩

section GrantEnds

variable {s : State}

theorem exec_latchLoad_of_not_due (notDue : ¬ ∃ cause, s.window.op = .latchLoad cause ∧ s.arbiter.holder = some .window) :
    exec .latchLoad s = .next s := by
  change execLatchLoad s = _
  simp only [execLatchLoad, State.event]
  split
  · split
    · next cause op => rw [if_neg fun holds => notDue ⟨cause, op, holder_of_holds holds⟩]
    all_goals rfl
  · rfl

theorem exec_windowWriteLanding_of_not_due (notDue : ¬ ∃ v, s.window.op = .pixelWrite v ∧ s.arbiter.holder = some .window) :
    exec .windowWriteLanding s = .next s := by
  change execWindowWriteLanding s = _
  simp only [execWindowWriteLanding, State.event]
  split
  · split
    · next v op => rw [if_neg fun holds => notDue ⟨v, op, holder_of_holds holds⟩]
    all_goals rfl
  · rfl

/-- The end of the window side's access has one effect, whatever cycle the host holds. -/
theorem exec_accessEnd_ignoresHost {c : Instr} (access : c = .latchLoad ∨ c = .windowWriteLanding) (high : s.nReset = true) :
    ∃ f, IgnoresHost f ∧ ∀ b n, exec c (s.withHost b n) = .next (f (s.withHost b n)) := by
  rcases access with rfl | rfl
  · by_cases due : ∃ cause, s.window.op = .latchLoad cause ∧ s.arbiter.holder = some .window
    · obtain ⟨cause, op, holder⟩ := due
      exact ⟨_, ignoresHost_endLoad cause, fun b n => exec_latchLoad (s := s.withHost b n) high op holder⟩
    · exact ⟨id, ignoresHost_id, fun b n => exec_latchLoad_of_not_due (s := s.withHost b n) due⟩
  · by_cases due : ∃ v, s.window.op = .pixelWrite v ∧ s.arbiter.holder = some .window
    · obtain ⟨v, op, holder⟩ := due
      exact ⟨_, ignoresHost_land v, fun b n => exec_windowWriteLanding (s := s.withHost b n) high op holder⟩
    · exact ⟨id, ignoresHost_id, fun b n => exec_windowWriteLanding_of_not_due (s := s.withHost b n) due⟩

end GrantEnds

theorem commandOf_row {c : Instr} {code : Byte} {n : Nat} (row : commandRow c = some (code, n)) {v : Word}
    (written : v.toNat = code.toNat) : commandOf v = c := by
  cases c <;> cases row <;> (unfold commandOf; rw [written]; rfl)

theorem commandOf_unlisted {v : Word} (h : v.toNat = 0 ∨ 26 < v.toNat) : commandOf v = .unknownCommand v := by
  unfold commandOf
  split
  case h_27 => rfl
  all_goals omega

theorem hostWrite_ignored (v : Word) (a : Fin 32) (h : a ∉ [0x04, 0x05, 0x08, 0x09, 0x0F]) :
    ∃ location, hostWrite a v = .registerWrite location v := by
  fin_cases a <;> simp at h <;> exact ⟨_, rfl⟩

/-- Settles O20: registers and tables by evaluation; the end of an access ignores the cycle the host holds. -/
theorem registerWritesTakeEffectAtOnce : Obligations.RegisterWritesTakeEffectAtOnce := by
  refine ⟨fun v s high => ?_, fun s => ?_, fun s high => ?_, fun v => ?_, rfl, rfl, rfl, rfl, by decide⟩
  · refine ⟨?_, fun _ => s.access_running id high, _, ?_, rfl, ?_⟩
    · change execWriteMaskWrite v s = _
      simp [execWriteMaskWrite, high]
    · change execInterruptEnableWrite v s = _
      simp [execInterruptEnableWrite, high]
    · simp [State.irq, State.attentionPending, State.donePending]
  · refine ⟨s.hostAccess_of_no_cycle, fun h => ?_, fun h => ?_, ?_⟩
    · simp [State.hostAccess, h]
    · simp [State.hostAccess, h]
    · simp [State.ready]
  · have ended : s.hostEndsCycle = s.hostAccess := if_pos high
    refine ⟨ended, fun a c row => ?_, fun a row => ?_, fun c hc => ?_⟩
    · simp [State.hostReads, row]
    · have word : s.hostAccess.readLocation a = s.readLocation a := by
        rw [State.hostAccess_eq_withHost]; exact State.readLocation_withHost ..
      simp [State.hostReads, row, high, State.deliver, word]
    · obtain ⟨f, ⟨rest, bus⟩, run⟩ := exec_accessEnd_ignoresHost hc high
      have settled := bus _ s.cycle_hostAccess
      rw [ended]
      refine ⟨f s.hostAccess, ?_, settled, ?_, fun u ends => ?_⟩
      · rw [State.hostAccess_eq_withHost]; exact run _ _
      · simp [State.ready, settled]
      · obtain rfl : f s = u := Host.Outcome.next.inj ((run s.bus s.freeCount).symm.trans ends)
        rw [State.hostAccess_eq_withHost]
        exact rest ..
  · exact ⟨rfl, rfl, rfl, rfl, hostWrite_ignored v, fun c code n row written => commandOf_row row written,
      commandOf_unlisted⟩

end Sys2Proof.Machine

namespace Sys2Proof.Machine

open Sys2Proof.Safety

/-! ### The state right after reset -/

@[simp] theorem State.link_reset (k : Link) : State.reset.link k = .hardReset := by
  simp [State.link, State.reset, State.inReset]

@[simp] theorem State.tile_reset (t : TileIdx) : State.reset.tile t = .hardReset := by
  simp [State.tile, State.reset, State.inReset]

@[simp] theorem State.cell_reset (t : TileIdx) (w : WallBand) : State.reset.cell t w = ⟨.stale, false⟩ := by
  simp [State.cell, State.reset, State.inReset, CellRecord.hardReset]

@[simp] theorem LinkSlice.position_hardReset (p : Position) : LinkSlice.hardReset.position p = .hardReset := by
  simp [LinkSlice.position, LinkSlice.hardReset]

/-- No tile is enabled right after reset. -/
theorem enabled_hardReset : TileRecord.hardReset.enabled = false := rfl

/-- A link after a hard reset has no work, no record and no timer. -/
theorem linkSound_hardReset : LinkSound .hardReset := by
  refine ⟨fun _ => ⟨rfl, rfl, rfl, rfl, fun p => ?_, .inl rfl⟩, rfl, rfl, rfl, rfl, Nat.zero_le _, fun h => absurd rfl h,
    fun e he => ?_, Nat.zero_le _, fun i => i.elim0, fun q hq => ?_, fun t w b engine => ?_⟩
  · simp [PositionAbsent, PositionRecord.hardReset]
  · cases he
  · cases hq
  · cases engine

theorem linksSound_reset : LinksSound State.reset := by
  refine ⟨fun k => by rw [State.link_reset]; exact linkSound_hardReset, fun t on => ?_, fun k e he => ?_, fun t has running => ?_⟩
  · rw [State.tile_reset, enabled_hardReset] at on
    cases on
  · simp [LinkSlice.hardReset] at he
  · rcases running with running | ⟨running, -⟩ <;> cases running

theorem creditSound_reset : CreditSound State.reset := by
  refine ⟨fun k p => ?_, fun k t w b engine => ?_⟩
  · simp [CreditLaw, PositionRecord.hardReset]
  · simp [LinkSlice.hardReset] at engine

theorem cellsSound_reset : CellsSound State.reset := by
  refine ⟨fun t w _ => State.cell_reset t w, fun t w active => ?_, fun k r hr => ?_, fun k t w hw => ?_⟩
  · rw [State.tile_reset] at active
    cases active
  · simp [LinkSlice.hardReset] at hr
  · simp [LinkSlice.hardReset] at hw

theorem presentSound_reset : PresentSound State.reset := by
  refine ⟨fun t w marked => ?_, ?_, fun running => ?_, fun _ => rfl⟩
  · rw [State.cell_reset] at marked
    cases marked
  · simp only [markedCells, State.cell_reset]
    simp [State.reset, State.inReset]
  · cases running

theorem wallSound_reset : WallSound State.reset := by
  refine ⟨?_, fun t on => ?_, fun t u _ on => ?_⟩
  · simp [MapSound, State.reset, State.inReset, BandMap.hardReset]
  all_goals
    rw [State.tile_reset, enabled_hardReset] at on
    cases on

/-- The rise of nRESET leads from the state in reset, where the rules hold, to the state right after it. -/
theorem windowSound_reset : WindowSound State.reset :=
  (keeps_beginClear (s := State.inReset) rfl).window (windowSound_hardReset State.inReset)

theorem arbiterSound_reset : ArbiterSound State.reset :=
  (keeps_beginClear (s := State.inReset) rfl).arbiter (windowSound_hardReset State.inReset) (arbiterSound_hardReset State.inReset)

theorem fifosBounded_reset : FifosBounded State.reset := by
  simp [FifosBounded, State.reset, State.inReset]

/-- Settles O60: the store's rules by the rise of nRESET, the others by the hard-reset values of each table. -/
theorem resetMeetsEveryInvariant : Obligations.ResetMeetsEveryInvariant :=
  ⟨rfl, fifosBounded_reset, wallSound_reset, windowSound_reset, arbiterSound_reset, linksSound_reset, creditSound_reset,
    cellsSound_reset, presentSound_reset⟩

end Sys2Proof.Machine

/-! ## The wall and the tiles on it: what every step keeps (R22, R25, R38, R43) -/

namespace Sys2Proof.Machine

open Sys2Proof.Safety

/-! ### Updates that enable no tile anew and move no enabled tile -/

/-- Every enabled tile of t was enabled in s, and only its state may differ. -/
def TilesStay (s t : State) : Prop :=
  ∀ u, (t.tile u).enabled = true →
    (s.tile u).enabled = true ∧ t.tile u = { s.tile u with state := (t.tile u).state }

/-- The map differs in its sweep alone, and no tile is enabled anew or moved while enabled. -/
structure WallKept (s t : State) : Prop where
  map : t.map = { s.map with sweep := t.map.sweep }
  tiles : TilesStay s t

/-- R38 and R43 rest on the wall's size and on where the enabled tiles stand. -/
theorem tilesPlaced_of_tilesStay {s t : State} (width : t.map.width = s.map.width)
    (bands : t.map.bandCount = s.map.bandCount) (stay : TilesStay s t) (h : TilesPlaced s) : TilesPlaced t := by
  obtain ⟨inside, apart⟩ := h
  refine ⟨fun u on => ?_, fun u v ne onU onV => ?_⟩
  · obtain ⟨was, same⟩ := stay u on
    have before := inside u was
    rw [same]
    simpa only [BandMap.beyond, width, bands] using before
  · obtain ⟨wasU, sameU⟩ := stay u onU
    obtain ⟨wasV, sameV⟩ := stay v onV
    rw [sameU, sameV]
    exact apart u v ne wasU wasV

theorem TilesStay.of_tiles {s t : State} (h : t.tiles = s.tiles) : TilesStay s t := fun u on => by
  have same : t.tile u = s.tile u := by simp only [State.tile, h]
  rw [same] at on ⊢
  exact ⟨on, rfl⟩

namespace WallKept

variable {s t u : State}

theorem wallSound (h : WallKept s t) (hs : WallSound s) : WallSound t := by
  obtain ⟨map, tiles⟩ := hs
  refine ⟨?_, tilesPlaced_of_tilesStay (by rw [h.map]) (by rw [h.map]) h.tiles tiles⟩
  rw [h.map]
  exact map

theorem of_eq (map : t.map = s.map) (tiles : t.tiles = s.tiles) : WallKept s t :=
  ⟨by rw [map], .of_tiles tiles⟩

theorem refl (s : State) : WallKept s s := .of_eq rfl rfl

theorem trans (h : WallKept s t) (g : WallKept t u) : WallKept s u := by
  refine ⟨?_, fun v on => ?_⟩
  · rw [g.map, h.map]
  · obtain ⟨middle, later⟩ := g.tiles v on
    obtain ⟨first, earlier⟩ := h.tiles v middle
    refine ⟨first, ?_⟩
    rw [later, earlier]

/-- What keeps the wall from a state on with the same map and tiles. -/
theorem after (g : WallKept t u) (map : t.map = s.map) (tiles : t.tiles = s.tiles) : WallKept s u :=
  (of_eq map tiles).trans g

theorem foldl {α : Type} {f : State → α → State} (h : ∀ s a, WallKept s (f s a)) (l : List α) (s : State) :
    WallKept s (l.foldl f s) := by
  induction l generalizing s with
  | nil => exact refl s
  | cons a l ih => exact (h s a).trans (ih _)

theorem when {p : Prop} [Decidable p] (h : p → WallKept s t) : WallKept s (if p then t else s) := by
  split
  · next hp => exact h hp
  · exact refl s

theorem updateLink (s : State) (k : Link) (f : LinkSlice → LinkSlice) : WallKept s (s.updateLink k f) := .of_eq rfl rfl

theorem setLink (s : State) (k : Link) (l : LinkSlice) : WallKept s (s.setLink k l) := .of_eq rfl rfl

theorem setPresent (s : State) (p : PresentRecord) : WallKept s { s with present := p } := .of_eq rfl rfl

/-- One tile's record changes: it is disabled, or an enabled tile changes its state alone. -/
theorem setTile {v : TileIdx} {r : TileRecord}
    (h : r.enabled = true → (s.tile v).enabled = true ∧ r = { s.tile v with state := r.state }) :
    WallKept s (s.setTile v r) := by
  refine ⟨rfl, fun w => ?_⟩
  rw [State.tile_setTile]
  split
  · next e => subst e; exact h
  · exact fun on => ⟨on, rfl⟩

/-- The end of a command changes the Command Unit alone. -/
theorem finish (h : WallKept s t) (r : ResultCode) (ws : List Word) : WallKept s (t.finish r ws) :=
  h.trans (.of_eq rfl rfl)

theorem complete (h : WallKept s t) (ws : List Word) : WallKept s (t.complete ws) := h.finish _ ws

theorem refuse (s : State) (r : ResultCode) : WallKept s (s.refuse r) := (refl s).finish r []

/-- A command that refuses its parameters, or follows its rule. -/
theorem refuse_or {p : Prop} [Decidable p] {r : ResultCode} (h : WallKept s t) :
    WallKept s (if p then s.refuse r else t) := by
  split
  · exact refuse s r
  · exact h

end WallKept

theorem TileRecord.enabled_of_isActive {r : TileRecord} (h : r.isActive = true) : r.enabled = true := by
  have active : r.state = .active := by simpa [TileRecord.isActive] using h
  simp [TileRecord.enabled, active]

/-- SOFT RESET of a tile record changes its state alone, and enables nothing (R47). -/
theorem TileRecord.stays_softReset (r : TileRecord) (h : r.softReset.enabled = true) :
    r.enabled = true ∧ r.softReset = { r with state := r.softReset.state } := by
  unfold TileRecord.softReset at h ⊢
  cases state : r.state with
  | disabled => simp [TileRecord.enabled, state] at h
  | waiting => simp [TileRecord.enabled, state]
  | active => simp [TileRecord.enabled, state]

namespace State

variable (s : State) (k : Link)

/-! ### Presents, queries and releases (R41, R50 to R52, R62, R152 to R161) -/

theorem wallKept_endPresent (o : PresentOutcome) (t : Option TileIdx) : WallKept s (s.endPresent o t) := by
  obtain ⟨x, p, a, e⟩ := s.endPresent_frame o t
  rw [e]; exact .of_eq rfl rfl

theorem wallKept_leaveActive (ts : List TileIdx) (es : List Entry) : WallKept s (s.leaveActive ts es) := by
  obtain ⟨x, p, q, a, n, e⟩ := s.leaveActive_frame ts es
  rw [e]; exact .of_eq rfl rfl

theorem wallKept_enterShowing : WallKept s s.enterShowing := by
  obtain ⟨l, e⟩ := State.appendShows_frame { s with present.state := .showing }
  rw [State.enterShowing, e]; exact .of_eq rfl rfl

theorem wallKept_cut : WallKept s s.cut := by
  have marked : ∀ S p, WallKept s { s.setMarks S with present := p } := fun S p => .of_eq rfl rfl
  simp only [State.cut]
  split
  · exact (marked _ _).trans (wallKept_enterShowing _)
  · exact marked _ _

theorem wallKept_releaseEffect (r : HoldRecord) : WallKept s (s.releaseEffect r) := by
  obtain ⟨x, p, l, a, e⟩ := s.releaseEffect_frame r
  rw [e]; exact .of_eq rfl rfl

/-! ### Dispatch (R84 to R93, R125) -/

theorem wallKept_abandonDispatch : WallKept s (s.abandonDispatch k) := by
  unfold State.abandonDispatch
  split
  · split <;> exact .of_eq rfl rfl
  all_goals exact .refl s

theorem wallKept_giveUpReRead : WallKept s (s.giveUpReRead k) := by
  unfold State.giveUpReRead
  split
  · split <;> exact .of_eq rfl rfl
  all_goals exact .refl s

theorem wallKept_examine : WallKept s s.examine := by
  simp only [State.examine]
  split <;> exact .of_eq rfl rfl

theorem wallKept_completeDispatch (e : Entry) (body : HoldBody) (payload : List Word) :
    WallKept s (s.completeDispatch k e body payload) := by
  obtain ⟨l, x, eq, -⟩ := s.completeDispatch_frame k e body payload
  rw [eq]; exact .of_eq rfl rfl

theorem wallKept_releaseGrant : WallKept s s.releaseGrant := .of_eq rfl rfl

theorem wallKept_select : WallKept s (s.select k) := by
  unfold State.select
  split
  · split
    · exact .refl s
    · split
      · exact s.wallKept_completeDispatch k _ _ _
      · exact .of_eq rfl rfl
    · exact s.wallKept_completeDispatch k _ _ _
    · exact s.wallKept_completeDispatch k _ _ _
  · exact .refl s

theorem wallKept_endCapture : WallKept s (s.endCapture k) := by
  unfold State.endCapture
  split
  · split
    · exact (s.wallKept_completeDispatch k _ _ _).trans (wallKept_releaseGrant _)
    · split
      · exact (s.wallKept_completeDispatch k _ _ _).trans (wallKept_releaseGrant _)
      · exact .of_eq rfl rfl
  · exact .of_eq rfl rfl
  all_goals exact .refl s

/-! ### Attempts, entry to UP and loss (R40, R115 to R118, R131) -/

theorem wallKept_attemptTimedOut : WallKept s (s.attemptTimedOut k) := by
  simp only [State.attemptTimedOut]
  split <;> exact .of_eq rfl rfl

/-- A tile that joins was enabled, and becomes ACTIVE (R40). -/
theorem wallKept_joinTile (t : TileIdx) : WallKept s (State.joinTile k s t) := by
  simp only [State.joinTile]
  split
  · next joins =>
    obtain ⟨on, -⟩ : (s.tile t).enabled = true ∧ _ := by simpa using joins
    split
    · exact (WallKept.setTile (r := { s.tile t with state := .active }) fun _ => ⟨on, rfl⟩).trans (.of_eq rfl rfl)
    · exact .of_eq rfl rfl
  · exact .refl s

theorem wallKept_enterUp (n : BitVec 3) (capacity restart : Vector Nibble 4) :
    WallKept s (s.enterUp k n capacity restart) := by
  have up : WallKept s ((s.updateLink k (·.enterUp s.timers.silenceTimeout n capacity restart)).attend (.linkUp k)) :=
    .of_eq rfl rfl
  exact (up.trans (.foldl (State.wallKept_joinTile · k) _ _)).trans (.updateLink ..)

/-- The enabled tiles of a list become WAITING (R131). -/
theorem wallKept_makeWaiting {ts : List TileIdx} (on : ∀ t ∈ ts, (s.tile t).enabled = true) :
    WallKept s (s.makeWaiting ts) := by
  refine ⟨rfl, fun t => ?_⟩
  have tile : (s.makeWaiting ts).tile t =
      if ts.contains t then { s.tile t with state := .waiting } else s.tile t := by
    simp [State.makeWaiting, State.tile]
  rw [tile]
  split
  · next listed => exact fun _ => ⟨on t (by simpa using listed), rfl⟩
  · exact fun still => ⟨still, rfl⟩

theorem enabled_of_mem_activeTiles {t : TileIdx} (h : t ∈ s.activeTiles k) : (s.tile t).enabled = true := by
  obtain ⟨active, -⟩ : (s.tile t).isActive = true ∧ _ := by simpa [State.activeTiles] using h
  exact TileRecord.enabled_of_isActive active

theorem wallKept_loseLink (reason : LossReason) (off : Bool) : WallKept s (s.loseLink k reason off) := by
  obtain ⟨w, e, -⟩ := (s.attend (.linkLost k reason)).stopEngine_eq k
  simp only [State.loseLink, e]
  generalize hs : State.updateLink _ k (·.dropUp) = s₁
  have dropped : WallKept s s₁ := by subst hs; exact .of_eq rfl rfl
  have on : ∀ t ∈ s.activeTiles k, (s₁.tile t).enabled = true := by
    subst hs
    exact fun t ht => s.enabled_of_mem_activeTiles k ht
  have left := (dropped.trans (s₁.wallKept_makeWaiting on)).trans
    (wallKept_leaveActive _ (s.activeTiles k) ((s.link k).queue ++ (s.link k).backlog))
  refine left.trans ?_
  unfold State.afterLoss
  split <;> exact .of_eq rfl rfl

/-! ### Acknowledgement and replay (R119 to R128) -/

theorem wallKept_release (n : Nat) : WallKept s (s.release k n) := by
  simp only [State.release]
  split
  · exact .refl s
  · have effects : ∀ l, WallKept s (((s.link k).hold.take n).foldl State.releaseEffect (s.setLink k l)) :=
      fun l => (WallKept.setLink s k l).trans (.foldl wallKept_releaseEffect _ _)
    split
    · exact effects _
    · split
      · exact ((effects _).trans (wallKept_giveUpReRead _ k)).trans (.updateLink ..)
      · exact effects _

theorem wallKept_countReplay (q : SeqNo) : WallKept s (s.countReplay k q) := by
  have counted := WallKept.updateLink s k fun l => { l with replayCount := (s.link k).replayCount + 1 }
  simp only [State.countReplay]
  split
  · exact counted.trans (wallKept_loseLink _ k _ _)
  · exact (counted.trans (wallKept_giveUpReRead _ k)).trans (.updateLink ..)

theorem wallKept_replayTimedOut : WallKept s (s.replayTimedOut k) := by
  unfold State.replayTimedOut
  split
  · exact s.wallKept_countReplay k _
  · exact .refl s

theorem wallKept_retransmit : WallKept s (s.retransmit k) := by
  unfold State.retransmit
  split
  · exact .refl s
  · split <;> exact .of_eq rfl rfl

theorem wallKept_endReRead : WallKept s (s.endReRead k) := by
  unfold State.endReRead
  split
  · split <;> exact .of_eq rfl rfl
  · exact .of_eq rfl rfl
  all_goals exact .refl s

/-! ### Notices (R102, R104, R108, R109) -/

/-- A valid notice that its block takes with the wall kept. -/
theorem wallKept_notice {f : State → State} (hf : ∀ s, WallKept s (f s)) : WallKept s (s.notice k f) := by
  unfold State.notice
  split
  · exact (WallKept.updateLink ..).trans (hf _)
  all_goals exact .refl s

theorem wallKept_badNotice : WallKept s (s.badNotice k) := by
  unfold State.badNotice
  split
  · exact .updateLink ..
  · exact .updateLink ..
  all_goals exact .refl s

theorem wallKept_takeHello (seen : Bool) (n : BitVec 3) (capacity restart : Vector Nibble 4) :
    WallKept s (s.takeHello k seen n capacity restart) := by
  unfold State.takeHello
  split
  · split
    · have heard := WallKept.updateLink s k fun l => { l with partnerHeard := true }
      simp only []
      split
      · exact heard.trans (wallKept_enterUp _ k n capacity restart)
      · exact heard
    · exact (WallKept.updateLink ..).trans (wallKept_loseLink _ k _ _)
    all_goals exact .refl s
  · exact s.wallKept_badNotice k

theorem wallKept_takeAck (q : SeqNo) : WallKept s (s.takeAck k q) := by
  simp only [State.takeAck]
  split
  · split
    · exact s.wallKept_release k _
    · exact .refl s
  · exact .updateLink ..

theorem wallKept_takeNak (q : SeqNo) : WallKept s (s.takeNak k q) := by
  simp only [State.takeNak]
  split
  · split
    · exact (s.wallKept_release k _).trans (wallKept_countReplay _ k q)
    · exact s.wallKept_release k _
  · exact .updateLink ..

theorem wallKept_takeTileStatus (p : Position) (freed : Byte) (restart : Nibble) (shown : Byte) :
    WallKept s (s.takeTileStatus k p freed restart shown) := by
  simp only [State.takeTileStatus]
  split
  · exact .updateLink ..
  · split
    · exact s.wallKept_loseLink k _ _
    · split <;> exact .of_eq rfl rfl

theorem wallKept_takeReport (p : Position) (tag : Byte) (capacity : Nibble) (shown : Byte) (restart : Nibble)
    (word : BitVec 32) : WallKept s (s.takeReport k p tag capacity shown restart word) := by
  unfold State.takeReport
  split <;> exact .of_eq rfl rfl

/-! ### Host accesses, the window side and the sweep -/

theorem wallKept_hostAccess : WallKept s s.hostAccess := .of_eq s.map_hostAccess s.tiles_hostAccess

/-- What is held for the window side is carried out beside the wall. -/
theorem wallKept_runHeld (held : List HeldOp) : WallKept s (State.runHeld held s) := by
  induction held generalizing s with
  | nil => exact .of_eq rfl rfl
  | cons op rest ih =>
    cases op with
    | pixelRead =>
      simp only [State.runHeld, State.readLatch_eq]
      split
      · exact .after (ih _) rfl rfl
      · exact .of_eq rfl rfl
    | setMode o m => exact .after (ih _) rfl rfl
    | pixelWrite _ => exact .of_eq rfl rfl
    | setWindow _ => exact .of_eq rfl rfl
    | setPointer _ _ => exact .of_eq rfl rfl
    | fillStart => exact .of_eq rfl rfl

theorem wallKept_takeWindowOp (op : HeldOp) : WallKept s (s.takeWindowOp op) := by
  simp only [State.takeWindowOp]
  split
  · exact s.wallKept_runHeld _
  · exact .of_eq rfl rfl

theorem wallKept_writePixelData (v : Word) : WallKept s (s.writePixelData v) := by
  unfold State.writePixelData
  split
  · exact .of_eq rfl rfl
  · exact .after (wallKept_takeWindowOp ..) rfl rfl

theorem wallKept_readPixelData : WallKept s s.readPixelData := by
  unfold State.readPixelData
  split
  · exact .of_eq rfl rfl
  · exact .after (wallKept_takeWindowOp ..) rfl rfl

theorem wallKept_endLoad (cause : LoadCause) : WallKept s (s.endLoad cause) := by
  have loaded : WallKept s (State.loadEnded
      (State.releaseGrant { s with window.latch := Memory.pixel s.store s.window.x s.window.y }) cause) := by
    cases cause <;> exact .of_eq rfl rfl
  exact loaded.trans (wallKept_runHeld ..)

/-- A pass of the sweep changes cells and the sweep (R34). -/
theorem wallKept_sweepPass : WallKept s s.sweepPass := by
  unfold State.sweepPass
  split
  · next w rest _ =>
    have swept : WallKept s (s.sweepBand w) := .of_eq rfl rfl
    simp only []
    generalize s.sweepBand w = u at swept
    split <;> exact swept.trans ⟨rfl, .of_tiles rfl⟩
  · exact .refl s

/-! ### Tile commands and SOFT RESET (R42, R44, R47, R184) -/

theorem wallKept_disableTile (t : TileIdx) : WallKept s (s.disableTile t) := by
  have disabled : WallKept s (s.setTile t { s.tile t with state := .disabled }) := .setTile fun on => by cases on
  have left : ∀ (s : State) j ts es,
      WallKept s ((s.updateLink j fun l => (l.removeTile t).orphanTile t).leaveActive ts es) :=
    fun s j ts es => (WallKept.updateLink s j _).trans (wallKept_leaveActive _ ts es)
  simp only [State.disableTile]
  split
  · split
    · exact (disabled.trans (wallKept_abandonDispatch _ _)).trans (left ..)
    · exact disabled.trans (left ..)
  · exact disabled

theorem wallKept_softResetLink : WallKept s (s.softResetLink k) :=
  ((s.wallKept_abandonDispatch k).trans (wallKept_giveUpReRead _ k)).trans (.updateLink ..)

theorem wallKept_softReset : WallKept s s.softReset := by
  have links : WallKept s ((List.finRange 4).foldl State.softResetLink s) := .foldl wallKept_softResetLink _ s
  unfold State.softReset
  generalize (List.finRange 4).foldl State.softResetLink s = u at links
  refine links.trans ⟨rfl, fun t => ?_⟩
  have tile : ∀ v : State, v.tiles = u.tiles.map TileRecord.softReset → v.tile t = (u.tile t).softReset :=
    fun v hv => by simp [State.tile, hv]
  rw [tile _ rfl]
  exact TileRecord.stays_softReset _

end State

end Sys2Proof.Machine

namespace Sys2Proof.Machine

open Sys2Proof.Safety

/-! ### Every command keeps the wall's rules -/

section Arms

variable {s t : State}

/-! #### Commands that neither set the wall nor enable a tile -/

theorem wallKept_event {f : State → State} (h : s.event f = .next t) (hf : ∀ s, WallKept s (f s)) : WallKept s t := by
  obtain rfl : (if s.nReset then f s else s) = t := by simpa [State.event] using h
  exact .when fun _ => hf s

theorem wallKept_access {f : State → State} (h : s.access f = .next t) (hf : ∀ s, WallKept s (f s)) : WallKept s t :=
  wallKept_event h fun s => s.wallKept_hostAccess.trans (hf _)

/-- A command write that collides, is refused by a check before its own rule, or follows its rule. -/
theorem wallKept_commandWrite {code : Byte} {n : Nat} {body : List Word → State → State}
    (h : s.commandWrite code n body = .next t) (hb : ∀ ps s, WallKept s (body ps s)) : WallKept s t := by
  refine wallKept_access h fun s => ?_
  rcases s.command_cases code n body with ⟨-, e⟩ | ⟨-, r, -, e⟩ | ⟨-, -, -, -, e⟩
  · rw [e]; exact .of_eq rfl rfl
  · rw [e]; exact .of_eq rfl rfl
  · rw [e]; exact (hb _ _).after rfl rfl

theorem wallKept_linkCommand {code : Byte} {body : Link → State → State} (h : s.linkCommand code body = .next t)
    (hb : ∀ k s, WallKept s (body k s)) : WallKept s t :=
  wallKept_commandWrite h fun _ s => .refuse_or (hb _ s)

/-! ##### Engine steps -/

theorem wallKept_execRemapSweepPass (h : execRemapSweepPass s = .next t) : WallKept s t :=
  wallKept_event h fun s => s.wallKept_sweepPass

theorem wallKept_execWalkerExamination (h : execWalkerExamination s = .next t) : WallKept s t :=
  wallKept_event h fun s => .when fun _ => s.wallKept_examine

theorem wallKept_execDispatchSelection {k : Link} (h : execDispatchSelection k s = .next t) : WallKept s t :=
  wallKept_event h fun s => s.wallKept_select k

theorem wallKept_execCaptureGrantEnd {k : Link} (h : execCaptureGrantEnd k s = .next t) : WallKept s t :=
  wallKept_event h fun s => .when fun _ => s.wallKept_endCapture k

theorem wallKept_execTransmissionEnd {k : Link} (h : execTransmissionEnd k s = .next t) : WallKept s t :=
  wallKept_event h fun s => .updateLink s k _

theorem wallKept_execReplayRetransmission {k : Link} (h : execReplayRetransmission k s = .next t) : WallKept s t :=
  wallKept_event h fun s => s.wallKept_retransmit k

theorem wallKept_execReReadGrantEnd {k : Link} (h : execReReadGrantEnd k s = .next t) : WallKept s t :=
  wallKept_event h fun s => .when fun _ => s.wallKept_endReRead k

theorem wallKept_execHardResetEnd (h : execHardResetEnd s = .next t) : WallKept s t := by
  simp only [execHardResetEnd, Host.Outcome.next.injEq] at h
  subst h
  split
  · exact .refl s
  · exact .of_eq rfl rfl

/-- A row's grant ends beside the wall, be it of the start-up clear or of a FILL (R2, R17). -/
theorem wallKept_execStartUpClearRow (h : execStartUpClearRow s = .next t) : WallKept s t :=
  wallKept_event h fun _ => .when fun _ => by rw [State.endClearRow_eq]; exact .of_eq rfl rfl

theorem wallKept_execFillRow (h : execFillRow s = .next t) : WallKept s t :=
  wallKept_event h fun _ => .when fun _ => by rw [State.endFillRow_eq]; exact .of_eq rfl rfl

theorem wallKept_execWindowWriteLanding (h : execWindowWriteLanding s = .next t) : WallKept s t := by
  refine wallKept_event h fun s => ?_
  split
  · exact .when fun _ => by rw [State.land_eq]; exact .of_eq rfl rfl
  all_goals exact .refl s

theorem wallKept_execLatchLoad (h : execLatchLoad s = .next t) : WallKept s t := by
  refine wallKept_event h fun s => ?_
  split
  · exact .when fun _ => s.wallKept_endLoad _
  all_goals exact .refl s

/-! ##### Expiries and notices -/

theorem wallKept_execHelloInterval {k : Link} (h : execHelloInterval k s = .next t) : WallKept s t :=
  wallKept_event h fun s => .when fun _ => .updateLink s k _

theorem wallKept_execAttemptTimeout {k : Link} (h : execAttemptTimeout k s = .next t) : WallKept s t :=
  wallKept_event h fun s => .when fun _ => s.wallKept_attemptTimedOut k

theorem wallKept_execReplayTimeout {k : Link} (h : execReplayTimeout k s = .next t) : WallKept s t :=
  wallKept_event h fun s => .when fun _ => s.wallKept_replayTimedOut k

theorem wallKept_execSilenceTimeout {k : Link} (h : execSilenceTimeout k s = .next t) : WallKept s t :=
  wallKept_event h fun s => .when fun _ => s.wallKept_loseLink k _ _

theorem wallKept_execQueryTimeout (h : execQueryTimeout s = .next t) : WallKept s t :=
  wallKept_event h fun _ => .when fun _ => .of_eq rfl rfl

theorem wallKept_execPresentDeadline (h : execPresentDeadline s = .next t) : WallKept s t := by
  refine wallKept_event h fun s => .when fun _ => ?_
  split
  · exact s.wallKept_endPresent _ _
  · exact s.wallKept_endPresent _ _
  · exact .refl s

theorem wallKept_execHelloNotice {k : Link} {seen : Bool} {n : BitVec 3} {capacity restart : Vector Nibble 4}
    (h : execHelloNotice k seen n capacity restart s = .next t) : WallKept s t :=
  wallKept_event h fun s => s.wallKept_takeHello k seen n capacity restart

theorem wallKept_execAckNotice {k : Link} {q : SeqNo} (h : execAckNotice k q s = .next t) : WallKept s t :=
  wallKept_event h fun s => s.wallKept_notice k fun s => s.wallKept_takeAck k q

theorem wallKept_execNakNotice {k : Link} {q : SeqNo} (h : execNakNotice k q s = .next t) : WallKept s t :=
  wallKept_event h fun s => s.wallKept_notice k fun s => s.wallKept_takeNak k q

theorem wallKept_execTileStatusNotice {k : Link} {p : Position} {freed : Byte} {restart : Nibble} {shown : Byte}
    (h : execTileStatusNotice k p freed restart shown s = .next t) : WallKept s t :=
  wallKept_event h fun s => s.wallKept_notice k fun s => s.wallKept_takeTileStatus k p freed restart shown

theorem wallKept_execReportNotice {k : Link} {p : Position} {tag : Byte} {capacity : Nibble} {shown : Byte}
    {restart : Nibble} {word : BitVec 32} (h : execReportNotice k p tag capacity shown restart word s = .next t) :
    WallKept s t :=
  wallKept_event h fun s => s.wallKept_notice k fun s => s.wallKept_takeReport k p tag capacity shown restart word

theorem wallKept_execIdleNotice {k : Link} (h : execIdleNotice k s = .next t) : WallKept s t :=
  wallKept_event h fun s => s.wallKept_notice k .refl

theorem wallKept_execInvalidNotice {k : Link} (h : execInvalidNotice k s = .next t) : WallKept s t :=
  wallKept_event h fun s => s.wallKept_badNotice k

/-! ##### Host accesses -/

theorem wallKept_execPixelWrite {v : Word} (h : execPixelWrite v s = .next t) : WallKept s t :=
  wallKept_access h fun s => s.wallKept_writePixelData v

theorem wallKept_execPixelRead (h : execPixelRead s = .next t) : WallKept s t :=
  wallKept_access h fun s => s.wallKept_readPixelData

theorem wallKept_execParameterWrite {v : Word} (h : execParameterWrite v s = .next t) : WallKept s t :=
  wallKept_access h fun _ => .of_eq rfl rfl

theorem wallKept_execCommandStatusRead (h : execCommandStatusRead s = .next t) : WallKept s t :=
  wallKept_access h fun _ => .of_eq rfl rfl

theorem wallKept_execAttentionRead (h : execAttentionRead s = .next t) : WallKept s t :=
  wallKept_access h fun _ => .of_eq rfl rfl

theorem wallKept_execWriteMaskWrite {v : Word} (h : execWriteMaskWrite v s = .next t) : WallKept s t :=
  wallKept_access h fun _ => .of_eq rfl rfl

theorem wallKept_execInterruptEnableWrite {v : Word} (h : execInterruptEnableWrite v s = .next t) : WallKept s t :=
  wallKept_access h fun _ => .of_eq rfl rfl

theorem wallKept_execRegisterWrite {location : IgnoredLocation} {v : Word}
    (h : execRegisterWrite location v s = .next t) : WallKept s t :=
  wallKept_access (f := id) h .refl

theorem wallKept_execResultRead (h : execResultRead s = .next t) : WallKept s t := by
  refine wallKept_access h fun s => ?_
  split <;> exact .of_eq rfl rfl

theorem wallKept_execUnknownCommand {code : Word} (h : execUnknownCommand code s = .next t) : WallKept s t := by
  unfold execUnknownCommand at h
  split at h
  · cases h
  · refine wallKept_access h fun s => ?_
    split <;> exact .of_eq rfl rfl

/-! ##### Commands -/

theorem wallKept_execSetWindow (h : execSetWindow s = .next t) : WallKept s t :=
  wallKept_commandWrite h fun _ s => .refuse_or (s.wallKept_takeWindowOp _)

theorem wallKept_execSetPointer (h : execSetPointer s = .next t) : WallKept s t :=
  wallKept_commandWrite h fun _ s => .refuse_or (s.wallKept_takeWindowOp _)

theorem wallKept_execSetMode (h : execSetMode s = .next t) : WallKept s t :=
  wallKept_commandWrite h fun _ s => .refuse_or (s.wallKept_takeWindowOp _)

theorem wallKept_execMapRead (h : execMapRead s = .next t) : WallKept s t :=
  wallKept_commandWrite h fun _ s => .refuse_or ((WallKept.refl s).complete _)

theorem wallKept_execTileRead (h : execTileRead s = .next t) : WallKept s t :=
  wallKept_commandWrite h fun _ s => .refuse_or ((WallKept.refl s).complete _)

theorem wallKept_execQueryRead (h : execQueryRead s = .next t) : WallKept s t :=
  wallKept_commandWrite h fun _ s => (WallKept.refl s).complete _

theorem wallKept_execCellRead (h : execCellRead s = .next t) : WallKept s t :=
  wallKept_commandWrite h fun _ s => .refuse_or ((WallKept.refl s).complete _)

theorem wallKept_execSetWalker (h : execSetWalker s = .next t) : WallKept s t :=
  wallKept_commandWrite h fun _ _ => .refuse_or (.of_eq rfl rfl)

theorem wallKept_execLinkClearFlags (h : execLinkClearFlags s = .next t) : WallKept s t :=
  wallKept_linkCommand h fun k s => (WallKept.updateLink s k _).complete _

theorem wallKept_execPresentRead (h : execPresentRead s = .next t) : WallKept s t :=
  wallKept_commandWrite h fun _ s => (WallKept.refl s).complete _

theorem wallKept_execFill (h : execFill s = .next t) : WallKept s t :=
  wallKept_commandWrite h fun _ _ => .refuse_or (.after (State.wallKept_takeWindowOp ..) rfl rfl)

theorem wallKept_execSetTimer (h : execSetTimer s = .next t) : WallKept s t :=
  wallKept_commandWrite h fun _ _ => .refuse_or (.refuse_or (.of_eq rfl rfl))

/-- TILE SET writes the place of a tile that it leaves DISABLED (R42). -/
theorem wallKept_execTileSet (h : execTileSet s = .next t) : WallKept s t :=
  wallKept_commandWrite h fun _ _ => .refuse_or (.refuse_or ((WallKept.setTile fun on => by cases on).complete _))

theorem wallKept_execTileDisable (h : execTileDisable s = .next t) : WallKept s t := by
  refine wallKept_commandWrite h fun _ s => .refuse_or ?_
  split
  · exact (s.wallKept_disableTile _).complete _
  · exact .refuse s _

theorem wallKept_execQueryTile (h : execQueryTile s = .next t) : WallKept s t :=
  wallKept_commandWrite h fun _ _ => .refuse_or (.refuse_or (.refuse_or (.refuse_or (.of_eq rfl rfl))))

theorem wallKept_execLinkEnable (h : execLinkEnable s = .next t) : WallKept s t := by
  refine wallKept_linkCommand h fun k s => ?_
  split <;> exact .of_eq rfl rfl

theorem wallKept_execLinkDisable (h : execLinkDisable s = .next t) : WallKept s t := by
  refine wallKept_linkCommand h fun k s => ?_
  split
  · exact .of_eq rfl rfl
  · exact .of_eq rfl rfl
  · exact .of_eq rfl rfl
  · exact (s.wallKept_loseLink k _ _).complete _

theorem wallKept_execLinkReset (h : execLinkReset s = .next t) : WallKept s t := by
  refine wallKept_linkCommand h fun k s => ?_
  split
  · exact .of_eq rfl rfl
  · exact .of_eq rfl rfl
  · exact .of_eq rfl rfl
  · exact (s.wallKept_loseLink k _ _).complete _

theorem wallKept_execPresent (h : execPresent s = .next t) : WallKept s t := by
  refine wallKept_commandWrite h fun _ s => ?_
  split
  · exact .refuse s _
  · exact .refuse s _
  · split
    · exact s.wallKept_cut.complete _
    · exact .refuse s _

theorem wallKept_execCancelPresent (h : execCancelPresent s = .next t) : WallKept s t := by
  refine wallKept_commandWrite h fun _ s => ?_
  split
  · exact (s.wallKept_endPresent _ _).complete _
  · exact .refuse s _
  · exact .refuse s _

theorem wallKept_execSoftReset (h : execSoftReset s = .next t) : WallKept s t := by
  refine wallKept_access h fun s => ?_
  split
  · exact .of_eq rfl rfl
  · exact ((State.wallKept_softReset _).complete _).after rfl rfl

/-! #### The commands that set the wall, and TILE ENABLE (R23, R25, R31, R32, R43) -/

/-- A command write whose own rule keeps the wall's rules. -/
theorem wallSound_commandWrite {code : Byte} {n : Nat} {body : List Word → State → State}
    (h : s.commandWrite code n body = .next t) (hs : WallSound s)
    (hb : ∀ ps s, WallSound s → WallSound (body ps s)) : WallSound t := by
  obtain rfl : (if s.nReset then s.hostAccess.command code n body else s) = t := by
    simpa [State.commandWrite, State.access, State.event] using h
  split
  · have settled := s.wallKept_hostAccess.wallSound hs
    rcases s.hostAccess.command_cases code n body with ⟨-, e⟩ | ⟨-, r, -, e⟩ | ⟨-, -, -, -, e⟩
    · rw [e]; exact settled
    · rw [e]; exact settled
    · rw [e]; exact hb _ _ settled
  · exact hs

/-- Where no tile is enabled, only the wall's own ranges count. -/
theorem wallSound_of_disabled (map : MapSound s.map) (off : ∀ u, (s.tile u).enabled = false) : WallSound s :=
  ⟨map, fun u on => by simp [off u] at on, fun u _ _ on => by simp [off u] at on⟩

theorem mapSound_hardReset : MapSound .hardReset := by
  simp [MapSound, BandMap.hardReset]

theorem wallSound_hardReset (s : State) : WallSound s.hardReset := by
  refine wallSound_of_disabled mapSound_hardReset fun u => ?_
  have tile : s.hardReset.tile u = .hardReset := by simp [State.tile, State.hardReset, State.inReset]
  rw [tile, enabled_hardReset]

theorem badWidth_iff (w : Nat) : badWidth w = true ↔ ¬(w % 8 = 0 ∧ 8 ≤ w ∧ w ≤ 512) := by
  simp only [badWidth, Bool.or_eq_true, bne_iff_ne, decide_eq_true_eq]
  omega

theorem anyEnabled_iff (s : State) : s.anyEnabled = true ↔ ∃ u, (s.tile u).enabled = true := by
  simp [State.anyEnabled]

theorem wallSound_execConfigureWall (h : execConfigureWall s = .next t) (hs : WallSound s) : WallSound t := by
  refine wallSound_commandWrite h hs fun ps s hs => ?_
  split
  · exact hs
  · next good =>
    split
    · exact hs
    · next off =>
      simp only [Bool.or_eq_true, decide_eq_true_eq, badWidth_iff] at good
      refine wallSound_of_disabled ?_ fun u => ?_
      · simp only [MapSound, State.map_complete, BandMap.hardReset]
        omega
      · rw [anyEnabled_iff] at off
        exact Bool.eq_false_iff.mpr fun on => off ⟨u, on⟩

/-- A map command that leaves the wall's size as it was and the roll region in its ranges (R28). -/
theorem wallSound_mapCommand {m : BandMap} (hs : WallSound s) (sound : MapSound m) (width : m.width = s.map.width)
    (bands : m.bandCount = s.map.bandCount) : WallSound (s.mapCommand m) := by
  obtain ⟨-, placed⟩ := hs
  unfold State.mapCommand
  split
  · exact ⟨sound, tilesPlaced_of_tilesStay (s := s) width bands (.of_tiles rfl) placed⟩
  · exact ⟨sound, tilesPlaced_of_tilesStay (s := s) width bands (.of_tiles rfl) placed⟩

theorem wallSound_execMapSet (h : execMapSet s = .next t) (hs : WallSound s) : WallSound t := by
  refine wallSound_commandWrite h hs fun ps s hs => ?_
  split
  · exact hs
  · exact wallSound_mapCommand hs hs.1 rfl rfl

theorem wallSound_execSetRollRegion (h : execSetRollRegion s = .next t) (hs : WallSound s) : WallSound t := by
  refine wallSound_commandWrite h hs fun ps s hs => ?_
  split
  · exact hs
  · next good =>
    obtain ⟨multiple, width, bands, -⟩ := hs.1
    refine wallSound_mapCommand hs ⟨multiple, width, bands, fun _ => ?_, ?_⟩ rfl rfl
    all_goals simp only []; omega

/-- The origin after a roll lies in the ring (R32). -/
theorem rolledOrigin_lt {m : BandMap} (ring : 1 ≤ m.ringCount) (step : Int) : m.rolledOrigin step < m.ringCount := by
  have low := Int.emod_nonneg (m.origin + step) (b := m.ringCount) (by omega)
  have high := Int.emod_lt_of_pos (m.origin + step) (b := m.ringCount) (by omega)
  simp only [BandMap.rolledOrigin]
  omega

theorem wallSound_execRoll (h : execRoll s = .next t) (hs : WallSound s) : WallSound t := by
  refine wallSound_commandWrite h hs fun ps s hs => ?_
  simp only []
  split
  · exact hs
  · split
    · exact hs
    · obtain ⟨multiple, width, bands, region, ring, ringMax, ringEnd, -⟩ := hs.1
      exact wallSound_mapCommand hs
        ⟨multiple, width, bands, region, ring, ringMax, ringEnd, rolledOrigin_lt ring _⟩ rfl rfl

/-- No other enabled tile has the link and chain position of a tile (R43). -/
theorem conflicts_eq_false_iff (s : State) (v : TileIdx) : s.conflicts v = false ↔
    ∀ u, u ≠ v → (s.tile u).enabled = true →
      ¬((s.tile u).link = (s.tile v).link ∧ (s.tile u).position = (s.tile v).position) := by
  simp only [State.conflicts, List.any_eq_false, List.mem_finRange, Bool.and_eq_true, bne_iff_ne, beq_iff_eq,
    forall_const]
  exact forall_congr' fun u => by tauto

/-- A tile inside the wall, whose chain position no other enabled tile has, may take any state (R43). -/
theorem wallSound_setTile_state {v : TileIdx} (state : TileState) (inside : s.map.beyond (s.tile v) = false)
    (alone : s.conflicts v = false) (hs : WallSound s) : WallSound (s.setTile v { s.tile v with state := state }) := by
  obtain ⟨map, within, apart⟩ := hs
  rw [conflicts_eq_false_iff] at alone
  refine ⟨map, fun u on => ?_, fun u w ne onU onW => ?_⟩
  · rw [State.tile_setTile] at on ⊢
    split at on
    · next e => rw [if_pos e]; exact inside
    · next e => rw [if_neg e]; exact within u on
  · rw [State.tile_setTile] at onU onW ⊢
    rw [State.tile_setTile]
    by_cases hu : u = v
    · have hw : w ≠ v := fun e => ne (hu.trans e.symm)
      rw [if_neg hw] at onW ⊢
      rw [if_pos hu]
      exact fun ⟨link, position⟩ => alone w hw onW ⟨link.symm, position.symm⟩
    · rw [if_neg hu] at onU ⊢
      by_cases hw : w = v
      · rw [if_pos hw]
        exact alone u hu onU
      · rw [if_neg hw] at onW ⊢
        exact apart u w ne onU onW

theorem wallSound_execTileEnable (h : execTileEnable s = .next t) (hs : WallSound s) : WallSound t := by
  refine wallSound_commandWrite h hs fun ps s hs => ?_
  simp only []
  split
  · exact hs
  split
  · exact hs
  split
  · exact hs
  split
  · exact hs
  next inside alone => exact wallSound_setTile_state _ (by simpa using inside) (by simpa using alone) hs

end Arms

theorem exec_wallSound {c : Instr} {s t : State} (hs : WallSound s) (h : exec c s = .next t) : WallSound t := by
  cases c with
  | hardReset => cases h; exact wallSound_hardReset s
  | hardResetEnd => exact (wallKept_execHardResetEnd h).wallSound hs
  | startUpClearRow => exact (wallKept_execStartUpClearRow h).wallSound hs
  | pixelWrite _ => exact (wallKept_execPixelWrite h).wallSound hs
  | pixelRead => exact (wallKept_execPixelRead h).wallSound hs
  | windowWriteLanding => exact (wallKept_execWindowWriteLanding h).wallSound hs
  | latchLoad => exact (wallKept_execLatchLoad h).wallSound hs
  | fillRow => exact (wallKept_execFillRow h).wallSound hs
  | remapSweepPass => exact (wallKept_execRemapSweepPass h).wallSound hs
  | walkerExamination => exact (wallKept_execWalkerExamination h).wallSound hs
  | dispatchSelection _ => exact (wallKept_execDispatchSelection h).wallSound hs
  | captureGrantEnd _ => exact (wallKept_execCaptureGrantEnd h).wallSound hs
  | transmissionEnd _ => exact (wallKept_execTransmissionEnd h).wallSound hs
  | helloInterval _ => exact (wallKept_execHelloInterval h).wallSound hs
  | attemptTimeout _ => exact (wallKept_execAttemptTimeout h).wallSound hs
  | helloNotice _ _ _ _ _ => exact (wallKept_execHelloNotice h).wallSound hs
  | ackNotice _ _ => exact (wallKept_execAckNotice h).wallSound hs
  | nakNotice _ _ => exact (wallKept_execNakNotice h).wallSound hs
  | tileStatusNotice _ _ _ _ _ => exact (wallKept_execTileStatusNotice h).wallSound hs
  | reportNotice _ _ _ _ _ _ _ => exact (wallKept_execReportNotice h).wallSound hs
  | idleNotice _ => exact (wallKept_execIdleNotice h).wallSound hs
  | invalidNotice _ => exact (wallKept_execInvalidNotice h).wallSound hs
  | replayTimeout _ => exact (wallKept_execReplayTimeout h).wallSound hs
  | replayRetransmission _ => exact (wallKept_execReplayRetransmission h).wallSound hs
  | reReadGrantEnd _ => exact (wallKept_execReReadGrantEnd h).wallSound hs
  | silenceTimeout _ => exact (wallKept_execSilenceTimeout h).wallSound hs
  | queryTimeout => exact (wallKept_execQueryTimeout h).wallSound hs
  | presentDeadline => exact (wallKept_execPresentDeadline h).wallSound hs
  | parameterWrite _ => exact (wallKept_execParameterWrite h).wallSound hs
  | resultRead => exact (wallKept_execResultRead h).wallSound hs
  | commandStatusRead => exact (wallKept_execCommandStatusRead h).wallSound hs
  | attentionRead => exact (wallKept_execAttentionRead h).wallSound hs
  | writeMaskWrite _ => exact (wallKept_execWriteMaskWrite h).wallSound hs
  | interruptEnableWrite _ => exact (wallKept_execInterruptEnableWrite h).wallSound hs
  | registerWrite location v => exact (wallKept_execRegisterWrite (location := location) (v := v) h).wallSound hs
  | unknownCommand _ => exact (wallKept_execUnknownCommand h).wallSound hs
  | configureWall => exact wallSound_execConfigureWall h hs
  | setWindow => exact (wallKept_execSetWindow h).wallSound hs
  | setPointer => exact (wallKept_execSetPointer h).wallSound hs
  | setMode => exact (wallKept_execSetMode h).wallSound hs
  | fill => exact (wallKept_execFill h).wallSound hs
  | mapSet => exact wallSound_execMapSet h hs
  | mapRead => exact (wallKept_execMapRead h).wallSound hs
  | setRollRegion => exact wallSound_execSetRollRegion h hs
  | roll => exact wallSound_execRoll h hs
  | tileSet => exact (wallKept_execTileSet h).wallSound hs
  | tileEnable => exact wallSound_execTileEnable h hs
  | tileDisable => exact (wallKept_execTileDisable h).wallSound hs
  | tileRead => exact (wallKept_execTileRead h).wallSound hs
  | queryTile => exact (wallKept_execQueryTile h).wallSound hs
  | queryRead => exact (wallKept_execQueryRead h).wallSound hs
  | cellRead => exact (wallKept_execCellRead h).wallSound hs
  | setWalker => exact (wallKept_execSetWalker h).wallSound hs
  | linkEnable => exact (wallKept_execLinkEnable h).wallSound hs
  | linkDisable => exact (wallKept_execLinkDisable h).wallSound hs
  | linkReset => exact (wallKept_execLinkReset h).wallSound hs
  | linkClearFlags => exact (wallKept_execLinkClearFlags h).wallSound hs
  | present => exact (wallKept_execPresent h).wallSound hs
  | cancelPresent => exact (wallKept_execCancelPresent h).wallSound hs
  | presentRead => exact (wallKept_execPresentRead h).wallSound hs
  | setTimer => exact (wallKept_execSetTimer h).wallSound hs
  | softReset => exact (wallKept_execSoftReset h).wallSound hs

/-- Settles O53: the rules go through every arm of `exec`; all but HARD RESET, TILE ENABLE and the commands
that set the wall leave its geometry, enable no tile and move no enabled one. -/
theorem stepKeepsTheWallSound : Obligations.StepKeepsTheWallSound := by
  intro s t hs h
  unfold step at h
  split at h
  · cases h; exact hs
  · next c rest _ => exact exec_wallSound (s := { s with pending := rest }) hs h

end Sys2Proof.Machine

/-! ## The Band Map: what each command does (R23, R26, R28 to R34) -/

namespace Sys2Proof.Machine

open Sys2Proof.Safety

/-! ### Resolution and the changed set (R26, R33) -/

theorem BandMap.inRegion_iff (m : BandMap) (w : WallBand) :
    m.inRegion w = true ↔ m.rollCount ≠ 0 ∧ m.rollFirst ≤ w.val ∧ w.val < m.rollFirst + m.rollCount := by
  simp [BandMap.inRegion, and_assoc]

/-- Settles O25: the store band of the ring lies below 64, as the ring does. -/
theorem resolutionFollowsTheRing : Obligations.ResolutionFollowsTheRing := by
  rintro m w ⟨-, -, -, -, ring, -, ringEnd, -⟩ -
  rw [← BandMap.inRegion_iff]
  refine ⟨fun inside => ⟨_, if_pos inside, ?_⟩, fun outside => if_neg outside⟩
  have below := Nat.mod_lt (m.origin + w.val - m.rollFirst) (y := m.ringCount) (by omega)
  exact Nat.mod_eq_of_lt (by omega)

theorem BandMap.mem_changedSet (m m' : BandMap) (w : WallBand) :
    w ∈ m.changedSet m' ↔ w.val < m'.bandCount ∧ m.resolve w ≠ m'.resolve w := by
  simp [BandMap.changedSet]

theorem BandMap.changedSet_ascending (m m' : BandMap) : (m.changedSet m').Pairwise (· < ·) :=
  (List.pairwise_lt_finRange 48).filter _

/-! ### Map commands (R23, R28 to R32) -/

/-- A map command taken now leaves the map and the unit as `afterMapCommand` says (R28). -/
theorem State.mapCommand_taken (s : State) (code : Byte) (m : BandMap) :
    (s.hostAccess.takeCommand code).mapCommand m = afterMapCommand s code m := by
  have map : (s.hostAccess.takeCommand code).map = s.map := by simp
  simp only [State.mapCommand, afterMapCommand, map]
  cases changed : s.map.changedSet m with
  | nil => simp [State.takeCommand_hostAccess, State.complete, State.finish, running, ended]
  | cons w ws => simp [State.takeCommand_hostAccess]

theorem State.complete_hostAccess_takeCommand (s : State) (code : Byte) (ws : List Word) :
    (s.hostAccess.takeCommand code).complete ws = { s.hostAccess with cu := ended s code .ok ws } := by
  simp [State.complete, State.finish_takeCommand, ended]

/-- The tiles are all DISABLED exactly when none is enabled (R39). -/
theorem anyEnabled_iff_state (s : State) : s.anyEnabled = true ↔ ∃ u, (s.tile u).state ≠ .disabled := by
  simp [anyEnabled_iff, TileRecord.enabled]

/-- Settles O21: the rule of an accepted CONFIGURE WALL, by its two checks. -/
theorem configureWallClearsTheMap : Obligations.ConfigureWallClearsTheMap := by
  intro w b s accepted good
  have run : exec .configureWall s = .next _ := s.commandWrite_accepted _ _ _ _ accepted rfl
  have enabled : (s.hostAccess.takeCommand 0x01).anyEnabled = true ↔ ∃ u, (s.tile u).state ≠ .disabled := by
    simp [anyEnabled_iff_state]
  have range : (badWidth w.toNat || decide (b.toNat < 1) || decide (48 < b.toNat)) = true ↔ ¬ good := by
    simp only [Bool.or_eq_true, decide_eq_true_eq, badWidth_iff, good]
    omega
  simp only [param, List.getD_cons_zero, List.getD_cons_succ] at run
  refine ⟨fun bad => ?_, fun fits on => ?_, fun fits off => ?_⟩
  · rw [run, if_pos (range.mpr bad), State.refuse_hostAccess_takeCommand]
  · rw [run, if_neg (range.not_left.mpr fits), if_pos (enabled.mpr on), State.refuse_hostAccess_takeCommand]
  · have none := enabled.not.mpr (by simpa using off)
    rw [run, if_neg (range.not_left.mpr fits), if_neg none, State.takeCommand_hostAccess]
    simp only [State.map_hostAccess]
    rfl

/-- The new origin of ROLL is the sum with the step less a multiple of the ring count (R32). -/
theorem rolledOrigin_congr {m : BandMap} (ring : 1 ≤ m.ringCount) (step : Int) :
    ∃ q : Int, (m.origin : Int) + step = q * m.ringCount + m.rolledOrigin step := by
  have low := Int.emod_nonneg (m.origin + step) (b := m.ringCount) (by omega)
  refine ⟨(m.origin + step) / m.ringCount, ?_⟩
  rw [BandMap.rolledOrigin, Int.toNat_of_nonneg low, mul_comm]
  exact (Int.mul_ediv_add_emod ..).symm

/-- MAP SET (R28, R29). -/
theorem exec_mapSet {w k b : Word} {s : State} (accepted : Accepted s [w, k, b]) :
    let good := w.toNat < s.map.bandCount ∧ (k = 0 ∨ k = 1 ∧ b.toNat ≤ 63)
    (¬ good → exec .mapSet s = .next { s.hostAccess with cu := ended s 0x06 .range [] }) ∧
    (good → exec .mapSet s = .next (afterMapCommand s 0x06 { s.map with
      entries := s.map.entries.set (Fin.ofNat 48 w.toNat)
        (if k = 1 then some (Fin.ofNat 64 b.toNat) else none) })) := by
  intro good
  have run : exec .mapSet s = .next _ := s.commandWrite_accepted _ _ _ _ accepted rfl
  have zero : k.toNat = 0 ↔ k = 0 := BitVec.toNat_inj (x := k) (y := 0)
  have one : k.toNat = 1 ↔ k = 1 := BitVec.toNat_inj (x := k) (y := 1)
  have range : (s.map.bandCount ≤ w.toNat ∨ 1 < k.toNat ∨ (k.toNat = 1 ∧ 63 < b.toNat)) ↔ ¬ good := by
    simp only [good, ← zero, ← one]
    omega
  simp only [param, List.getD_cons_zero, List.getD_cons_succ, State.map_takeCommand, State.map_hostAccess,
    State.mapCommand_taken, one] at run range
  refine ⟨fun bad => ?_, fun fits => ?_⟩
  · rw [run, if_pos (range.mpr bad), State.refuse_hostAccess_takeCommand]
  · rw [run, if_neg (range.not_left.mpr fits)]

/-- SET ROLL REGION (R28, R31). -/
theorem exec_setRollRegion {f n rb rc o : Word} {s : State} (accepted : Accepted s [f, n, rb, rc, o]) :
    let good := f.toNat + n.toNat ≤ s.map.bandCount ∧ 1 ≤ rc.toNat ∧ rc.toNat ≤ 64 ∧ rb.toNat ≤ 63 ∧
      rb.toNat + rc.toNat ≤ 64 ∧ o.toNat < rc.toNat
    (¬ good → exec .setRollRegion s = .next { s.hostAccess with cu := ended s 0x08 .range [] }) ∧
    (good → exec .setRollRegion s = .next (afterMapCommand s 0x08 { s.map with
      rollFirst := f.toNat, rollCount := n.toNat, ringBase := rb.toNat, ringCount := rc.toNat
      origin := o.toNat })) := by
  intro good
  have run : exec .setRollRegion s = .next _ := s.commandWrite_accepted _ _ _ _ accepted rfl
  have range : (s.map.bandCount < f.toNat + n.toNat ∨ rc.toNat < 1 ∨ 64 < rc.toNat ∨ 63 < rb.toNat ∨
      64 < rb.toNat + rc.toNat ∨ rc.toNat ≤ o.toNat) ↔ ¬ good := by
    simp only [good]
    omega
  simp only [param, List.getD_cons_zero, List.getD_cons_succ, State.map_takeCommand, State.map_hostAccess,
    State.mapCommand_taken] at run
  refine ⟨fun bad => ?_, fun fits => ?_⟩
  · rw [run, if_pos (range.mpr bad), State.refuse_hostAccess_takeCommand]
  · rw [run, if_neg (range.not_left.mpr fits)]

/-- ROLL (R28, R32). -/
theorem exec_roll {d : Word} {s : State} (accepted : Accepted s [d]) :
    let good := -63 ≤ d.toInt ∧ d.toInt ≤ 63
    (¬ good → exec .roll s = .next { s.hostAccess with cu := ended s 0x09 .range [] }) ∧
    (good → s.map.rollCount = 0 → exec .roll s = .next { s.hostAccess with cu := ended s 0x09 .state [] }) ∧
    (good → s.map.rollCount ≠ 0 →
      exec .roll s = .next (afterMapCommand s 0x09 { s.map with origin := s.map.rolledOrigin d.toInt })) := by
  intro good
  have run : exec .roll s = .next _ := s.commandWrite_accepted _ _ _ _ accepted rfl
  have range : (d.toInt < -63 ∨ 63 < d.toInt) ↔ ¬ good := by
    simp only [good]
    omega
  simp only [paramWord, List.getD_cons_zero, State.map_takeCommand, State.map_hostAccess, State.mapCommand_taken] at run
  refine ⟨fun bad => ?_, fun fits empty => ?_, fun fits covers => ?_⟩
  · rw [run, if_pos (range.mpr bad), State.refuse_hostAccess_takeCommand]
  · rw [run, if_neg (range.not_left.mpr fits), if_pos empty, State.refuse_hostAccess_takeCommand]
  · rw [run, if_neg (range.not_left.mpr fits), if_neg covers]

/-- Settles O22: the three commands one by one; the origin of ROLL is the remainder of the sum. -/
theorem mapCommandsTakeTheNewMap : Obligations.MapCommandsTakeTheNewMap := by
  refine ⟨fun w k b s accepted => exec_mapSet accepted, fun f n rb rc o s accepted => exec_setRollRegion accepted,
    fun d s accepted ring => ?_, fun m m' => ⟨m.changedSet_ascending m', m.mem_changedSet m'⟩⟩
  obtain ⟨refused, empty, rolled⟩ := exec_roll accepted
  exact ⟨refused, empty, fun good covers =>
    ⟨_, rolledOrigin_lt ring _, rolledOrigin_congr ring _, rolled good covers⟩⟩

/-! ### MAP READ (R30) -/

theorem numWord_isSome {α : Type} (x : Option α) : numWord x.isSome.toNat = if x = none then 0 else 1 := by
  cases x <;> rfl

theorem numWord_val_getD (x : Option StoreBand) :
    numWord ((x.map (·.val)).getD 0) = x.elim 0 fun b => BitVec.ofNat 16 b.val := by
  cases x <;> rfl

/-- The five words of MAP READ (R30). -/
theorem BandMap.readWords_eq (m : BandMap) (w : WallBand) : m.readWords w =
    [if m.entries[w] = none then 0 else 1, (m.entries[w]).elim 0 fun b => BitVec.ofNat 16 b.val,
      if m.resolve w = none then 0 else 1, (m.resolve w).elim 0 fun b => BitVec.ofNat 16 b.val,
      if m.rollCount ≠ 0 ∧ m.rollFirst ≤ w.val ∧ w.val < m.rollFirst + m.rollCount then 1 else 0] := by
  have region : numWord (m.inRegion w).toNat = if m.inRegion w = true then 1 else 0 := by
    cases m.inRegion w <;> rfl
  simp only [BandMap.readWords, numWord_isSome, numWord_val_getD, region, m.inRegion_iff w]

/-- Settles O23: the words are those of the map as it stands, and the command ends at once. -/
theorem mapReadReturnsFiveWords : Obligations.MapReadReturnsFiveWords := by
  refine ⟨fun v s accepted => ?_, fun s high busy => ?_⟩
  · have run : exec .mapRead s = .next _ := s.commandWrite_accepted _ _ _ _ accepted rfl
    simp only [param, List.getD_cons_zero, State.map_takeCommand, State.map_hostAccess] at run
    refine ⟨fun beyond => ?_, fun w hw below => ?_⟩
    · rw [run, if_pos beyond, State.refuse_hostAccess_takeCommand]
    · have band : Fin.ofNat 48 v.toNat = w := by
        rw [← hw]
        exact Fin.ofNat_val_eq_self w
      rw [run, if_neg (Nat.not_le.mpr below), State.complete_hostAccess_takeCommand, band, BandMap.readWords_eq]
  · change execMapRead s = _
    simp [execMapRead, State.commandWrite, high, State.command, busy, State.collide]

/-! ### The remap sweep (R34, R59) -/

/-- One pass of the sweep as one change of the state: its cells, what it has still to pass, and the command's end. -/
theorem State.sweepPass_eq {s : State} {changed rest : List WallBand} {w : WallBand}
    (sweep : s.map.sweep = some ⟨changed, w :: rest⟩) : s.sweepPass = { s with
      cells := (s.sweepBand w).cells
      map := { s.map with sweep := if rest = [] then none else some ⟨changed, rest⟩ }
      cu := if rest = [] then endedOk s.cu else s.cu } := by
  simp only [State.sweepPass, sweep, List.isEmpty_iff]
  split <;> rfl

theorem changedWhere_of_sweepBand {s t : State} {w : WallBand} (cells : t.cells = (s.sweepBand w).cells) :
    ChangedWhere s t fun u v => v = w ∧ (s.tile u).state = .active ∧ (s.tile u).hasBand w = true := by
  intro u v
  have cell : t.cell u v = (s.sweepBand w).cell u v := by simp only [State.cell, cells]
  have reaches : (v == w && (s.tile u).isActive && (s.tile u).hasBand w) = true ↔
      v = w ∧ (s.tile u).state = .active ∧ (s.tile u).hasBand w = true := by
    simp [TileRecord.isActive, and_assoc]
  rw [cell, State.cell_sweepBand]
  split
  · next reached => exact ⟨fun _ => changed_change _, fun h => absurd (reaches.mp reached) h⟩
  · next missed => exact ⟨fun h => absurd (reaches.mpr h) missed, fun _ => rfl⟩

/-- Settles O24: one pass as one change of the state. -/
theorem sweepPassReachesActiveTiles : Obligations.SweepPassReachesActiveTiles := by
  intro changed w rest s high sweep
  have pass := State.sweepPass_eq sweep
  refine ⟨s.sweepPass, s.event_running _ high, changedWhere_of_sweepBand (by rw [pass]), ?_⟩
  rw [pass]

end Sys2Proof.Machine

/-! ## Departures: the present and the query that end, and their records (R41, R44, R52, R63, R158 to R160) -/

namespace Sys2Proof.Machine

open Sys2Proof.Safety

/-! ### The present -/

/-- Whether a running present needs a tile to be ACTIVE: a participant, until it has joined the shown set (R159, R160). -/
def PresentRecord.needs (p : PresentRecord) (t : TileIdx) : Bool :=
  match p.state with
  | .idle => false
  | .collecting => TileSet.has p.participants t
  | .showing => TileSet.has p.participants t && !TileSet.has p.shown t

/-- Whether the removal of an entry ends a present: its own SHOW of a tile that it needs (Table 5-2, R160). -/
def PresentRecord.endsAt (p : PresentRecord) : Entry → Bool
  | .showTile t n => p.state == .showing && n == p.number && p.needs t
  | .cell _ _ => false
  | .query _ _ => false

/-- A present ends for a tile's departure, if there is one to end it (R159, R160). -/
def State.endPresentFor (s : State) : Option TileIdx → State
  | none => s
  | some t => s.endPresent (if s.present.state = .collecting then .failed else .partially) (some t)

theorem PresentRecord.needs_idle {p : PresentRecord} (idle : p.state = .idle) (t : TileIdx) : p.needs t = false := by
  simp [PresentRecord.needs, idle]

theorem PresentRecord.needs_iff (p : PresentRecord) (t : TileIdx) : p.needs t = true ↔
    TileSet.has p.participants t = true ∧
      (p.state = .collecting ∨ p.state = .showing ∧ TileSet.has p.shown t = false) := by
  cases state : p.state <;> simp [PresentRecord.needs, state]

theorem State.presentTileLeft_eq (s : State) (t : TileIdx) :
    s.presentTileLeft t = s.endPresentFor (if s.present.needs t then some t else none) := by
  unfold State.presentTileLeft PresentRecord.needs
  cases state : s.present.state with
  | idle => rfl
  | collecting =>
    simp only []
    split <;> simp [State.endPresentFor, state]
  | showing =>
    simp only []
    split <;> simp [State.endPresentFor, state]

theorem State.presentEntryRemoved_eq (s : State) (e : Entry) :
    s.presentEntryRemoved e = s.endPresentFor (if s.present.endsAt e then some e.tile else none) := by
  cases e with
  | cell t w => rfl
  | query t g => rfl
  | showTile t n =>
    simp only [State.presentEntryRemoved, PresentRecord.endsAt, Entry.tile]
    by_cases own : s.present.state = .showing ∧ n = s.present.number
    · simp [own, State.presentTileLeft_eq]
    · have other : (s.present.state == .showing && n == s.present.number) = false := by
        simpa [Bool.and_eq_false_iff, imp_iff_not_or] using own
      simp [own, other, State.endPresentFor]

theorem State.presentEntryRemoved_idle {s : State} (idle : s.present.state = .idle) (e : Entry) :
    s.presentEntryRemoved e = s := by
  have never : s.present.endsAt e = false := by cases e <;> simp [PresentRecord.endsAt, idle]
  simp [State.presentEntryRemoved_eq, never, State.endPresentFor]

theorem State.presentTileLeft_idle {s : State} (idle : s.present.state = .idle) (t : TileIdx) :
    s.presentTileLeft t = s := by
  simp [State.presentTileLeft_eq, PresentRecord.needs_idle idle, State.endPresentFor]

/-- Departures change nothing once no present runs. -/
theorem State.presentDepartures_idle {s : State} (idle : s.present.state = .idle) (ts : List TileIdx) (es : List Entry) :
    s.presentDepartures ts es = s := by
  have entries : es.foldl State.presentEntryRemoved s = s :=
    List.foldl_fixed' (State.presentEntryRemoved_idle idle) es
  rw [State.presentDepartures, entries]
  exact List.foldl_fixed' (State.presentTileLeft_idle idle) ts

/-- Without removed entries the first tile that the present needs ends it. -/
theorem presentEnder_nil (p : PresentRecord) (ts : List TileIdx) : presentEnder p ts [] = ts.find? p.needs := by
  have needs : p.needs = fun t => p.needs t := rfl
  cases state : p.state with
  | idle => simp [presentEnder, state, needs, PresentRecord.needs, List.find?_eq_none.mpr]
  | collecting => simp [presentEnder, state, needs, PresentRecord.needs]
  | showing => simp [presentEnder, state, needs, PresentRecord.needs]

/-- The oldest removed entry ends the present if it can, before the entries after it and the leaving tiles. -/
theorem presentEnder_cons (p : PresentRecord) (ts : List TileIdx) (e : Entry) (es : List Entry) :
    presentEnder p ts (e :: es) = if p.endsAt e then some e.tile else presentEnder p ts es := by
  cases state : p.state with
  | idle => cases e <;> simp [presentEnder, state, PresentRecord.endsAt]
  | collecting => cases e <;> simp [presentEnder, state, PresentRecord.endsAt]
  | showing =>
    cases e with
    | cell t w => simp [presentEnder, state, PresentRecord.endsAt]
    | query t g => simp [presentEnder, state, PresentRecord.endsAt]
    | showTile t n =>
      by_cases own : n = p.number
      · simp only [presentEnder, state, PresentRecord.endsAt, PresentRecord.needs, Entry.tile, own, List.filterMap_cons,
          if_true, List.cons_append, List.find?_cons, beq_self_eq_true, Bool.true_and]
        split <;> simp_all
      · simp [presentEnder, state, PresentRecord.endsAt, own]

/-- Departures end the present for the tile that `presentEnder` finds, and only once. -/
theorem State.presentDepartures_eq (s : State) (ts : List TileIdx) (es : List Entry) :
    s.presentDepartures ts es = s.endPresentFor (presentEnder s.present ts es) := by
  induction es with
  | nil =>
    rw [presentEnder_nil]
    induction ts with
    | nil => rfl
    | cons t ts ih =>
      change (s.presentTileLeft t).presentDepartures ts [] = _
      rw [State.presentTileLeft_eq, List.find?_cons]
      cases s.present.needs t with
      | true => exact State.presentDepartures_idle rfl ts []
      | false => exact ih
  | cons e es ih =>
    change (s.presentEntryRemoved e).presentDepartures ts es = _
    rw [State.presentEntryRemoved_eq, presentEnder_cons]
    cases s.present.endsAt e with
    | true => exact State.presentDepartures_idle rfl ts es
    | false => exact ih

/-- Where departures end no present, it needs none of the leaving tiles. -/
theorem not_needs_of_presentEnder {p : PresentRecord} {ts : List TileIdx} {es : List Entry}
    (none : presentEnder p ts es = none) {t : TileIdx} (left : t ∈ ts) : p.needs t = false := by
  induction es with
  | nil =>
    rw [presentEnder_nil, List.find?_eq_none] at none
    simpa using none t left
  | cons e es ih =>
    rw [presentEnder_cons] at none
    split at none
    · cases none
    · exact ih none

/-! ### The query -/

/-- The query ends LOST, or goes on. -/
def State.loseQueryIf (s : State) (lost : Bool) : State := if lost then s.endQuery .lost else s

theorem State.queryDepartures_done {s : State} (done : s.query.waiting = false) (ts : List TileIdx) (es : List Entry) :
    s.queryDepartures ts es = s := by
  have entry : ∀ e, s.queryEntryRemoved e = s := fun e => by cases e <;> simp [State.queryEntryRemoved, done]
  have tile : ∀ t, s.queryTileLeft t = s := fun t => by simp [State.queryTileLeft, done]
  rw [State.queryDepartures, List.foldl_fixed' entry, List.foldl_fixed' tile]

theorem State.queryTileLeft_eq (s : State) (t : TileIdx) :
    s.queryTileLeft t = s.loseQueryIf (s.query.waiting && s.query.tile == t) := rfl

theorem State.queryEntryRemoved_eq (s : State) (e : Entry) :
    s.queryEntryRemoved e = s.loseQueryIf (s.query.waiting && e == .query s.query.tile s.query.tag) := by
  have own : ∀ t g, (Entry.query t g == .query s.query.tile s.query.tag) = (t == s.query.tile && g == s.query.tag) :=
    fun t g => by rw [Bool.eq_iff_iff]; simp
  cases e with
  | cell t w => simp [State.queryEntryRemoved, State.loseQueryIf]
  | showTile t n => simp [State.queryEntryRemoved, State.loseQueryIf]
  | query t g => simp only [State.queryEntryRemoved, State.loseQueryIf, own, Bool.and_assoc]

/-- Departures end the waiting query as `queryLost` says, and only once. -/
theorem State.queryDepartures_eq (s : State) (ts : List TileIdx) (es : List Entry) :
    s.queryDepartures ts es = s.loseQueryIf (queryLost s.query ts es) := by
  cases waiting : s.query.waiting with
  | false => simp [State.queryDepartures_done waiting, queryLost, waiting, State.loseQueryIf]
  | true =>
    induction es with
    | nil =>
      induction ts with
      | nil => simp [State.queryDepartures, queryLost, State.loseQueryIf]
      | cons t ts ih =>
        change (s.queryTileLeft t).queryDepartures ts [] = _
        rw [State.queryTileLeft_eq, waiting, Bool.true_and]
        cases own : s.query.tile == t with
        | true =>
          have lost : queryLost s.query (t :: ts) [] = true := by simp_all [queryLost]
          rw [lost]
          exact State.queryDepartures_done rfl ts []
        | false =>
          have same : queryLost s.query (t :: ts) [] = queryLost s.query ts [] := by simp_all [queryLost]
          rw [same]
          exact ih
    | cons e es ih =>
      change (s.queryEntryRemoved e).queryDepartures ts es = _
      rw [State.queryEntryRemoved_eq, waiting, Bool.true_and]
      cases own : e == .query s.query.tile s.query.tag with
      | true =>
        have lost : queryLost s.query ts (e :: es) = true := by simp_all [queryLost]
        rw [lost]
        exact State.queryDepartures_done rfl ts es
      | false =>
        have same : queryLost s.query ts (e :: es) = queryLost s.query ts es := by
          have other : Entry.query s.query.tile s.query.tag ≠ e := fun h => by simp [h] at own
          simp [queryLost, other]
        rw [same]
        exact ih

/-! ### Both with the cells -/

theorem State.query_endPresentFor (s : State) (ender : Option TileIdx) : (s.endPresentFor ender).query = s.query := by
  cases ender with
  | none => rfl
  | some t =>
    obtain ⟨x, p, a, e⟩ := s.endPresent_frame (if s.present.state = .collecting then .failed else .partially) (some t)
    simp only [State.endPresentFor, e]

theorem State.tile_endPresentFor (s : State) (ender : Option TileIdx) (u : TileIdx) :
    (s.endPresentFor ender).tile u = s.tile u := by
  cases ender with
  | none => rfl
  | some t =>
    obtain ⟨x, p, a, e⟩ := s.endPresent_frame (if s.present.state = .collecting then .failed else .partially) (some t)
    simp only [State.endPresentFor, e, State.tile]

theorem State.attention_endPresent (s : State) (o : PresentOutcome) (t : Option TileIdx) :
    (s.endPresent o t).attention = s.attention.append
      (.presentEnd o s.present.number t (if o == .partially then some s.present.shown else none)) := by
  simp only [State.endPresent]
  split <;> rfl

theorem State.present_endPresentFor (s : State) (ender : Option TileIdx) :
    (s.endPresentFor ender).present = if ender.isSome then
        { s.present with
          state := .idle, deadline := none, remaining := 0
          outcome := if s.present.state = .collecting then .failed else .partially }
      else s.present := by
  cases ender <;> rfl

theorem State.cell_endPresentFor (s : State) (ender : Option TileIdx) (u : TileIdx) (w : WallBand) :
    (s.endPresentFor ender).cell u w =
      if ender.isSome = true ∧ s.present.state = .collecting then { s.cell u w with marked := false } else s.cell u w := by
  cases ender with
  | none => simp [State.endPresentFor]
  | some t => simp [State.endPresentFor, State.cell_endPresent]

/-- The record of a present that departures end (Table 10-2). -/
def PresentRecord.departureEvents (p : PresentRecord) (ender : Option TileIdx) : List AttentionEvent :=
  ender.toList.map fun t => .presentEnd (if p.state = .collecting then .failed else .partially) p.number (some t)
    (if p.state = .collecting then none else some p.shown)

theorem State.attention_endPresentFor (s : State) (ender : Option TileIdx) :
    (s.endPresentFor ender).attention = (s.present.departureEvents ender).foldl Attention.append s.attention := by
  cases ender with
  | none => rfl
  | some t =>
    simp only [State.endPresentFor, State.attention_endPresent, PresentRecord.departureEvents, Option.toList_some,
      List.map_cons, List.map_nil, List.foldl_cons, List.foldl_nil]
    split <;> rfl

/-- The record of a query that departures end (R52). -/
def State.lostQueryEvents (s : State) (lost : Bool) : List AttentionEvent :=
  if lost then [.queryEnd (s.tile s.query.tile).link s.query.tile .lost s.query.tag] else []

theorem State.query_loseQueryIf (s : State) (lost : Bool) : (s.loseQueryIf lost).query =
    if lost then { s.query with waiting := false, outcome := .lost, timeout := none } else s.query := by
  cases lost <;> rfl

theorem State.attention_loseQueryIf (s : State) (lost : Bool) :
    (s.loseQueryIf lost).attention = (s.lostQueryEvents lost).foldl Attention.append s.attention := by
  cases lost <;> rfl

@[simp] theorem State.present_loseQueryIf (s : State) (lost : Bool) : (s.loseQueryIf lost).present = s.present := by
  cases lost <;> rfl

@[simp] theorem State.cell_loseQueryIf (s : State) (lost : Bool) (u : TileIdx) (w : WallBand) :
    (s.loseQueryIf lost).cell u w = s.cell u w := by
  cases lost <;> rfl

theorem State.lostQueryEvents_endPresentFor (s : State) (ender : Option TileIdx) (lost : Bool) :
    (s.endPresentFor ender).lostQueryEvents lost = s.lostQueryEvents lost := by
  simp only [State.lostQueryEvents, State.query_endPresentFor, State.tile_endPresentFor]

/-- The state in which the cells of departures have failed, with the counter of free values at n (R41, R63). -/
def State.failDepartures (s : State) (ts : List TileIdx) (es : List Entry) (n : Nat) : State :=
  { s with cells := ((s.failEntries es).failTiles ts).cells, freeCount := n }

section Failed

variable (s : State) (ts : List TileIdx) (es : List Entry) (n : Nat)

theorem State.failTiles_failEntries : (s.failEntries es).failTiles ts = s.failDepartures ts es s.freeCount := by rfl

@[simp] theorem State.present_failDepartures : (s.failDepartures ts es n).present = s.present := by
  simp only [State.failDepartures]

@[simp] theorem State.query_failDepartures : (s.failDepartures ts es n).query = s.query := by
  simp only [State.failDepartures]

@[simp] theorem State.attention_failDepartures : (s.failDepartures ts es n).attention = s.attention := by
  simp only [State.failDepartures]

@[simp] theorem State.tile_failDepartures (u : TileIdx) : (s.failDepartures ts es n).tile u = s.tile u := by
  simp only [State.failDepartures, State.tile]

theorem State.lostQueryEvents_failDepartures (lost : Bool) :
    (s.failDepartures ts es n).lostQueryEvents lost = s.lostQueryEvents lost := by
  simp only [State.lostQueryEvents, State.query_failDepartures, State.tile_failDepartures]

theorem State.failDepartures_count (m : Nat) :
    ({ s.failDepartures ts es m with freeCount := n } : State) = s.failDepartures ts es n := by
  simp only [State.failDepartures]

theorem State.cell_failDepartures (u : TileIdx) (w : WallBand) : (s.failDepartures ts es n).cell u w =
    if (u ∈ ts ∧ (s.tile u).hasBand w = true) ∨ Entry.cell u w ∈ es then ⟨.stale, false⟩ else s.cell u w := by
  have tile : (s.failEntries es).tile u = s.tile u := s.tile_mapCells _ u
  have cells : (s.failDepartures ts es n).cell u w = ((s.failEntries es).failTiles ts).cell u w := by
    simp only [State.failDepartures, State.cell]
  rw [cells, State.cell_failTiles, State.cell_failEntries, tile]
  by_cases left : u ∈ ts ∧ (s.tile u).hasBand w = true
  · simp [left]
  · by_cases removed : Entry.cell u w ∈ es
    · simp [removed]
    · simp [left, removed]

/-- What leaving ACTIVE does, its cells failed first: the present and the query end in one of the two orders (R41, R170). -/
theorem State.leaveActive_cases : ∃ n,
    s.leaveActive ts es =
      ((s.failDepartures ts es n).endPresentFor (presentEnder s.present ts es)).loseQueryIf (queryLost s.query ts es) ∨
    s.leaveActive ts es =
      ((s.failDepartures ts es n).loseQueryIf (queryLost s.query ts es)).endPresentFor (presentEnder s.present ts es) := by
  have unfolded : ∃ n, s.leaveActive ts es = ((s.failDepartures ts es n).presentDepartures ts es).queryDepartures ts es ∨
      s.leaveActive ts es = ((s.failDepartures ts es n).queryDepartures ts es).presentDepartures ts es := by
    simp only [State.leaveActive, State.failTiles_failEntries, State.failDepartures_count]
    split
    · split
      · exact ⟨_, .inr rfl⟩
      · exact ⟨_, .inl rfl⟩
    · exact ⟨s.freeCount, .inl rfl⟩
  obtain ⟨n, eq | eq⟩ := unfolded
  · refine ⟨n, .inl ?_⟩
    rw [eq, State.presentDepartures_eq, State.queryDepartures_eq, State.query_endPresentFor, State.present_failDepartures,
      State.query_failDepartures]
  · refine ⟨n, .inr ?_⟩
    rw [eq, State.queryDepartures_eq, State.presentDepartures_eq, State.present_loseQueryIf, State.present_failDepartures,
      State.query_failDepartures]

/-- What departures do, in the words of the statements. -/
theorem departed_leaveActive : Departed s (s.leaveActive ts es) s.attention ts es := by
  obtain ⟨n, eq | eq⟩ := s.leaveActive_cases ts es
  · rw [eq]
    refine ⟨?_, ?_, fun u w gone => ?_, fun u w stays => ?_, .inl ?_⟩
    · rw [State.present_loseQueryIf, State.present_endPresentFor, State.present_failDepartures]
    · rw [State.query_loseQueryIf, State.query_endPresentFor, State.query_failDepartures]
    · rw [State.cell_loseQueryIf, State.cell_endPresentFor, State.cell_failDepartures, if_pos gone, ite_self]
    · rw [State.cell_loseQueryIf, State.cell_endPresentFor, State.cell_failDepartures, if_neg stays,
        State.present_failDepartures]
    · rw [State.attention_loseQueryIf, State.attention_endPresentFor, State.lostQueryEvents_endPresentFor,
        State.lostQueryEvents_failDepartures, State.attention_failDepartures, State.present_failDepartures,
        ← List.foldl_append]
      rfl
  · rw [eq]
    refine ⟨?_, ?_, fun u w gone => ?_, fun u w stays => ?_, .inr ?_⟩
    · rw [State.present_endPresentFor, State.present_loseQueryIf, State.present_failDepartures]
    · rw [State.query_endPresentFor, State.query_loseQueryIf, State.query_failDepartures]
    · rw [State.cell_endPresentFor, State.cell_loseQueryIf, State.cell_failDepartures, if_pos gone, ite_self]
    · rw [State.cell_endPresentFor, State.cell_loseQueryIf, State.cell_failDepartures, if_neg stays,
        State.present_loseQueryIf, State.present_failDepartures]
    · rw [State.attention_endPresentFor, State.attention_loseQueryIf, State.present_loseQueryIf,
        State.lostQueryEvents_failDepartures, State.attention_failDepartures, State.present_failDepartures,
        ← List.foldl_append]
      rfl

end Failed

/-- Departures are told from a present, query and cells, and from where the tiles stand. -/
theorem departed_of_same {s s' t : State} {a : Attention} {ts : List TileIdx} {es : List Entry}
    (h : Departed s' t a ts es) (present : s'.present = s.present) (query : s'.query = s.query)
    (cells : s'.cells = s.cells) (tiles : ∀ u, ∃ x, s'.tile u = { s.tile u with state := x }) : Departed s t a ts es := by
  have link : ∀ u, (s'.tile u).link = (s.tile u).link := fun u => by obtain ⟨x, e⟩ := tiles u; rw [e]
  have band : ∀ u w, (s'.tile u).hasBand w = (s.tile u).hasBand w := fun u w => by
    obtain ⟨x, e⟩ := tiles u
    rw [e]
    rfl
  have cell : ∀ u w, s'.cell u w = s.cell u w := fun u w => by simp only [State.cell, cells]
  simpa only [Departed, present, query, link, band, cell] using h

end Sys2Proof.Machine

/-! ## The rules of one link (Table 7-1, R77, R80, R84, R91, R114) -/

namespace Sys2Proof.Machine

open Sys2Proof.Safety

/-- R77, R80: a queue within its depth, and a backlog of SHOW entries that waits only behind a full queue. -/
structure QueueRules (queue backlog : List Entry) : Prop where
  bound : queue.length ≤ 32
  full : backlog ≠ [] → queue.length = 32
  shows : ∀ e ∈ backlog, ∃ t n, e = .showTile t n

/-- The clauses of `LinkSound` under names of their own. -/
structure LinkRules (l : LinkSlice) : Prop where
  idle : l.state ≠ .up → LinkIdle l
  attempt : l.attemptTimer.isSome = (l.state == .training)
  hello : l.helloInterval = (l.state == .training)
  silence : l.silenceTimer.isSome = (l.state == .up)
  replayTimer : l.replayTimer.isSome = !l.hold.isEmpty
  queue : QueueRules l.queue l.backlog
  holdBound : l.hold.length ≤ 16
  consecutive : HoldConsecutive l
  replayPoint : ∀ q, l.replayPoint = some q → ∃ r ∈ l.hold, r.seq = q
  dispatch : ∀ t w b, l.engine = .dispatch t w b → Entry.cell t w ∈ l.queue ∧ l.hold.length < 16

theorem linkSound_iff (l : LinkSlice) : LinkSound l ↔ LinkRules l := by
  constructor
  · rintro ⟨idle, attempt, hello, silence, replayTimer, bound, full, shows, holdBound, consecutive, replayPoint, dispatch⟩
    exact ⟨idle, attempt, hello, silence, replayTimer, ⟨bound, full, shows⟩, holdBound, consecutive, replayPoint, dispatch⟩
  · rintro ⟨idle, attempt, hello, silence, replayTimer, ⟨bound, full, shows⟩, holdBound, consecutive, replayPoint, dispatch⟩
    exact ⟨idle, attempt, hello, silence, replayTimer, bound, full, shows, holdBound, consecutive, replayPoint, dispatch⟩

/-! ### Queue and backlog -/

theorem queueRules_nil : QueueRules [] [] := ⟨Nat.zero_le _, fun h => absurd rfl h, fun _ h => (List.not_mem_nil h).elim⟩

namespace QueueRules

variable {queue backlog : List Entry}

/-- Nothing waits behind a queue with room. -/
theorem backlog_nil (h : QueueRules queue backlog) (room : queue.length < 32) : backlog = [] := by
  by_contra waits
  exact absurd (h.full waits) (Nat.ne_of_lt room)

theorem append (h : QueueRules queue backlog) (room : queue.length < 32) (e : Entry) :
    QueueRules (queue ++ [e]) backlog := by
  rw [h.backlog_nil room]
  refine ⟨?_, fun waits => absurd rfl waits, fun _ he => (List.not_mem_nil he).elim⟩
  simpa using room

/-- A shortened queue that the shortened backlog refills (R80, R81). -/
theorem refill (bound : queue.length ≤ 32) (shows : ∀ e ∈ backlog, ∃ t n, e = Entry.showTile t n) :
    QueueRules (queue ++ backlog.take (32 - queue.length)) (backlog.drop (32 - queue.length)) := by
  refine ⟨?_, fun waits => ?_, fun e he => shows e (List.mem_of_mem_drop he)⟩
  · simp only [List.length_append, List.length_take]
    omega
  · have longer : 32 - queue.length < backlog.length := by simpa using waits
    simp only [List.length_append, List.length_take]
    omega

end QueueRules

theorem LinkSlice.queueRules_appendShow {l : LinkSlice} (h : QueueRules l.queue l.backlog) (t : TileIdx) (n : Byte) :
    QueueRules (l.appendShow (.showTile t n)).queue (l.appendShow (.showTile t n)).backlog := by
  unfold LinkSlice.appendShow
  split
  · next free =>
    have room : l.queue.length < 32 := by
      simp only [Bool.and_eq_true, LinkSlice.hasRoom, decide_eq_true_eq] at free
      exact free.1
    exact h.append room _
  · next busy =>
    refine ⟨h.bound, fun _ => ?_, fun e he => ?_⟩
    · by_contra less
      have room : l.queue.length < 32 := Nat.lt_of_le_of_ne h.bound less
      exact busy (by simp [LinkSlice.hasRoom, Config.queueDepth, room, h.backlog_nil room])
    · rcases List.mem_append.mp he with old | new
      · exact h.shows e old
      · exact ⟨t, n, by simpa using new⟩

/-! ### Consecutive sequence numbers (R91) -/

theorem holdConsecutive_iff (l : LinkSlice) : HoldConsecutive l ↔
    ∀ i (h : i < l.hold.length), l.hold[i].seq = l.nextSeq - BitVec.ofNat 12 (l.hold.length - i) :=
  ⟨fun h i hi => h ⟨i, hi⟩, fun h i => h i i.isLt⟩

theorem holdConsecutive_nil {l : LinkSlice} (h : l.hold = []) : HoldConsecutive l := by
  simp [holdConsecutive_iff, h]

/-- Released records leave the others consecutive (R120). -/
theorem holdConsecutive_drop {l l' : LinkSlice} (h : HoldConsecutive l) {n : Nat} (hold : l'.hold = l.hold.drop n)
    (next : l'.nextSeq = l.nextSeq) : HoldConsecutive l' := by
  rw [holdConsecutive_iff] at h ⊢
  intro i hi
  simp only [hold, List.length_drop] at hi ⊢
  rw [List.getElem_drop, h (n + i) (by omega), next]
  congr 2
  omega

/-- The record of a new dispatch joins with the next sequence number (R91). -/
theorem holdConsecutive_append {l l' : LinkSlice} (h : HoldConsecutive l) {r : HoldRecord} (seq : r.seq = l.nextSeq)
    (hold : l'.hold = l.hold ++ [r]) (next : l'.nextSeq = l.nextSeq + 1) : HoldConsecutive l' := by
  rw [holdConsecutive_iff] at h ⊢
  intro i hi
  simp only [hold, List.length_append, List.length_cons, List.length_nil] at hi ⊢
  have back : ∀ m, l.nextSeq + 1 - BitVec.ofNat 12 (m + 1) = l.nextSeq - BitVec.ofNat 12 m := fun m => by
    rw [BitVec.ofNat_add]
    exact add_sub_add_right_eq_sub ..
  by_cases old : i < l.hold.length
  · rw [List.getElem_append_left old, h i old, next, ← back]
    congr 2
    omega
  · obtain rfl : i = l.hold.length := by omega
    simp [seq, next]

/-- Marks on records leave their numbers (R44). -/
theorem holdConsecutive_map {l l' : LinkSlice} (h : HoldConsecutive l) {f : HoldRecord → HoldRecord}
    (seq : ∀ r, (f r).seq = r.seq) (hold : l'.hold = l.hold.map f) (next : l'.nextSeq = l.nextSeq) :
    HoldConsecutive l' := by
  rw [holdConsecutive_iff] at h ⊢
  intro i hi
  simp only [hold, List.length_map] at hi ⊢
  rw [List.getElem_map, seq, h i hi, next]

/-! ### Capture engines -/

/-- What a capture engine with no work of its own left may be doing. -/
def CaptureEngine.workless (e : CaptureEngine) : Prop := e = .idle ∨ e = .abandonedDispatch ∨ e = .givenUpReRead

theorem CaptureEngine.workless_stoppedEngine (holding : Bool) (e : CaptureEngine) : (stoppedEngine holding e).workless := by
  cases e <;> cases holding <;> simp [stoppedEngine, CaptureEngine.workless]

theorem CaptureEngine.not_dispatch_of_workless {e : CaptureEngine} (h : e.workless) {t : TileIdx} {w : WallBand}
    {b : StoreBand} : e ≠ .dispatch t w b := by
  rintro rfl
  simp [CaptureEngine.workless] at h

namespace LinkRules

variable {l : LinkSlice}

theorem up_of_queue (h : LinkRules l) {e : Entry} (he : e ∈ l.queue ++ l.backlog) : l.state = .up := by
  by_contra down
  obtain ⟨queue, backlog, -⟩ := h.idle down
  simp [queue, backlog] at he

theorem up_of_hold (h : LinkRules l) (hold : l.hold ≠ []) : l.state = .up := by
  by_contra down
  obtain ⟨-, -, none, -⟩ := h.idle down
  exact hold none

theorem up_of_replayPoint (h : LinkRules l) {q : SeqNo} (point : l.replayPoint = some q) : l.state = .up := by
  obtain ⟨r, hr, -⟩ := h.replayPoint q point
  exact h.up_of_hold (List.ne_nil_of_mem hr)

/-- A link without entries and records. -/
theorem of_no_work (queue : l.queue = []) (backlog : l.backlog = []) (hold : l.hold = []) (replayPoint : l.replayPoint = none)
    (replayTimer : l.replayTimer = none) (engine : l.engine.workless)
    (positions : l.state ≠ .up → ∀ p, PositionAbsent (l.position p))
    (attempt : l.attemptTimer.isSome = (l.state == .training)) (hello : l.helloInterval = (l.state == .training))
    (silence : l.silenceTimer.isSome = (l.state == .up)) : LinkRules l where
  idle down := ⟨queue, backlog, hold, replayPoint, positions down, engine⟩
  attempt := attempt
  hello := hello
  silence := silence
  replayTimer := by simp [replayTimer, hold]
  queue := by rw [queue, backlog]; exact queueRules_nil
  holdBound := by simp [hold]
  consecutive := holdConsecutive_nil hold
  replayPoint q hq := by simp [replayPoint] at hq
  dispatch t w b engineIs := absurd engineIs (CaptureEngine.not_dispatch_of_workless engine)

theorem replayTimer_none (h : LinkRules l) (hold : l.hold = []) : l.replayTimer = none := by
  simpa [hold] using h.replayTimer

theorem silenceTimer_none (h : LinkRules l) (down : l.state ≠ .up) : l.silenceTimer = none := by
  have off := h.silence
  rw [beq_eq_false_iff_ne.mpr down] at off
  simpa using off

/-- A link that is not UP goes to another state that is not UP (R115, R118, R133). -/
theorem move {l' : LinkSlice} (h : LinkRules l) (down : l.state ≠ .up) (down' : l'.state ≠ .up)
    (attempt : l'.attemptTimer.isSome = (l'.state == .training)) (hello : l'.helloInterval = (l'.state == .training))
    (kept : l' = { l with
      state := l'.state, partnerHeard := l'.partnerHeard, attemptCount := l'.attemptCount, attemptTimer := l'.attemptTimer
      helloInterval := l'.helloInterval, tx := l'.tx }) : LinkRules l' := by
  obtain ⟨queue, backlog, hold, replayPoint, positions, engine⟩ := h.idle down
  have silence := h.silenceTimer_none down
  have replayTimer := h.replayTimer_none hold
  rw [kept] at attempt hello down' ⊢
  exact of_no_work queue backlog hold replayPoint replayTimer engine (fun _ => positions) attempt hello
    (by simpa [silence] using down')

theorem setTx (h : LinkRules l) (tx : Transmitter) : LinkRules { l with tx := tx } := { h with }

/-- A capture engine's work is given up, or it takes work that is no dispatch on a link that is UP. -/
theorem setEngine (h : LinkRules l) {e : CaptureEngine} (down : l.state ≠ .up → e.workless)
    (dispatch : ∀ t w b, e = .dispatch t w b → Entry.cell t w ∈ l.queue ∧ l.hold.length < 16) :
    LinkRules { l with engine := e } :=
  { h with
    idle := fun g => by
      obtain ⟨queue, backlog, hold, replayPoint, positions, -⟩ := h.idle g
      exact ⟨queue, backlog, hold, replayPoint, positions, down g⟩
    dispatch := dispatch }

theorem stop (h : LinkRules l) {e : CaptureEngine} (stopped : e = l.engine ∨ e.workless) : LinkRules { l with engine := e } := by
  rcases stopped with rfl | workless
  · exact h
  · exact h.setEngine (fun _ => workless) fun t w b engine =>
      absurd engine (CaptureEngine.not_dispatch_of_workless workless)

/-- The replay point moves to a held record, or no replay is in progress any more (R125, R126). -/
theorem setReplayPoint (h : LinkRules l) {p : Option SeqNo} (held : ∀ q, p = some q → ∃ r ∈ l.hold, r.seq = q) :
    LinkRules { l with replayPoint := p } :=
  { h with
    idle := fun down => by
      obtain ⟨queue, backlog, hold, -, positions, engine⟩ := h.idle down
      refine ⟨queue, backlog, hold, ?_, positions, engine⟩
      cases p with
      | none => rfl
      | some q =>
        obtain ⟨r, hr, -⟩ := held q rfl
        simp [hold] at hr
    replayPoint := held }

theorem setReplayTimer (h : LinkRules l) (hold : l.hold ≠ []) (time : Nat) : LinkRules { l with replayTimer := some time } :=
  { h with replayTimer := by simp [hold] }

theorem restartSilence (h : LinkRules l) (up : l.state = .up) (time : Nat) : LinkRules { l with silenceTimer := some time } :=
  { h with silence := by simp [up] }

end LinkRules

end Sys2Proof.Machine

/-! ## Links, tiles, queues and participants together (R39, R77, R159, R160) -/

namespace Sys2Proof.Machine

open Sys2Proof.Safety

/-- A chain position that a link serves: the link is UP and the position present (R39). -/
def LinkSlice.serves (l : LinkSlice) (p : Position) : Bool := l.state == .up && (l.position p).present

theorem State.canBeActive_eq (s : State) (t : TileIdx) :
    s.canBeActive t = (s.link (s.tile t).link).serves (s.tile t).position := rfl

theorem LinkSlice.serves_of_down {l : LinkSlice} (down : l.state ≠ .up) (p : Position) : l.serves p = false := by
  simp [LinkSlice.serves, down]

/-- An entry that names a tile ACTIVE on a link (R77). -/
def NamesActive (s : State) (k : Link) (e : Entry) : Prop :=
  (s.tile e.tile).isActive = true ∧ (s.tile e.tile).link = k

theorem participantsActive_iff (s : State) :
    ParticipantsActive s ↔ ∀ t, s.present.needs t = true → (s.tile t).isActive = true := by
  simp only [ParticipantsActive, PresentRecord.needs_iff, and_imp]

/-- The link of an ACTIVE tile is UP (R39). -/
theorem up_of_isActive {s : State} (hs : LinksSound s) {t : TileIdx} (active : (s.tile t).isActive = true) :
    (s.link (s.tile t).link).state = .up := by
  obtain ⟨-, states, -⟩ := hs
  have serves := states t (TileRecord.enabled_of_isActive active)
  rw [active, State.canBeActive_eq, LinkSlice.serves, eq_comm, Bool.and_eq_true, beq_iff_eq] at serves
  exact serves.1

theorem up_of_namesActive {s : State} (hs : LinksSound s) {k : Link} {e : Entry} (h : NamesActive s k e) :
    (s.link k).state = .up := by
  obtain ⟨active, rfl⟩ := h
  exact up_of_isActive hs active

/-- Links, tiles and present tell whether the rules hold. -/
theorem linksSound_congr {s t : State} (links : t.links = s.links) (tiles : t.tiles = s.tiles)
    (present : t.present = s.present) (hs : LinksSound s) : LinksSound t := by
  have link : ∀ k, t.link k = s.link k := fun k => by simp only [State.link, links]
  have tile : ∀ u, t.tile u = s.tile u := fun u => by simp only [State.tile, tiles]
  simpa only [LinksSound, TileStatesSound, EntriesActive, ParticipantsActive, State.canBeActive, link, tile, present] using hs

/-- The rules of links, tiles, queues and participants go from one state to another. -/
def LinksKept (s t : State) : Prop := LinksSound s → LinksSound t

namespace LinksKept

variable {s t u : State}

theorem refl (s : State) : LinksKept s s := id

theorem trans (h : LinksKept s t) (g : LinksKept t u) : LinksKept s u := g ∘ h

/-- Neither links nor tiles nor the present change. -/
theorem of_eq (links : t.links = s.links) (tiles : t.tiles = s.tiles) (present : t.present = s.present) : LinksKept s t :=
  linksSound_congr links tiles present

/-- What keeps the rules from a state on with the same links, tiles and present. -/
theorem after (g : LinksKept t u) (links : t.links = s.links) (tiles : t.tiles = s.tiles) (present : t.present = s.present) :
    LinksKept s u := (of_eq links tiles present).trans g

theorem when {p : Prop} [Decidable p] (h : p → LinksKept s t) : LinksKept s (if p then t else s) := by
  split
  · next hp => exact h hp
  · exact refl s

theorem finish (h : LinksKept s t) (r : ResultCode) (ws : List Word) : LinksKept s (t.finish r ws) :=
  h.trans (of_eq rfl rfl rfl)

theorem complete (h : LinksKept s t) (ws : List Word) : LinksKept s (t.complete ws) := h.finish _ ws

theorem refuse (s : State) (r : ResultCode) : LinksKept s (s.refuse r) := (refl s).finish r []

theorem refuse_or {p : Prop} [Decidable p] {r : ResultCode} (h : ¬ p → LinksKept s t) :
    LinksKept s (if p then s.refuse r else t) := by
  split
  · exact refuse s r
  · next hp => exact h hp

end LinksKept

/-! ### One link changes -/

/-- A sound slice that serves the same chain positions takes its link's place, its entries naming tiles ACTIVE on it. -/
theorem linksSound_setLink {s : State} {k : Link} {l : LinkSlice} (hs : LinksSound s) (rules : LinkRules l)
    (serves : ∀ p, l.serves p = (s.link k).serves p)
    (entries : ∀ e ∈ l.queue ++ l.backlog, e ∈ (s.link k).queue ++ (s.link k).backlog ∨ NamesActive s k e) :
    LinksSound (s.setLink k l) := by
  obtain ⟨links, states, names, participants⟩ := hs
  refine ⟨fun j => ?_, fun t on => ?_, fun j e he => ?_, participants⟩
  · rw [State.link_setLink]
    split
    · exact (linkSound_iff l).mpr rules
    · exact links j
  · rw [State.tile_setLink] at on
    rw [State.tile_setLink, states t on, State.canBeActive_eq, State.canBeActive_eq, State.tile_setLink, State.link_setLink]
    split
    · next same => rw [serves, same]
    · rfl
  · rw [State.link_setLink] at he
    split at he
    · next same =>
      subst same
      exact (entries e he).elim (names j e) id
    · exact names j e he

theorem LinksKept.updateLink {s : State} {k : Link} {f : LinkSlice → LinkSlice}
    (rules : LinkRules (s.link k) → LinkRules (f (s.link k)))
    (serves : ∀ p, (f (s.link k)).serves p = (s.link k).serves p)
    (queue : (f (s.link k)).queue = (s.link k).queue) (backlog : (f (s.link k)).backlog = (s.link k).backlog) :
    LinksKept s (s.updateLink k f) := fun hs =>
  linksSound_setLink hs (rules ((linkSound_iff _).mp (hs.1 k))) serves fun e he => .inl (by rwa [queue, backlog] at he)

theorem linkRules_of_linksSound {s : State} (hs : LinksSound s) (k : Link) : LinkRules (s.link k) := (linkSound_iff _).mp (hs.1 k)

/-! ### Entries join a link -/

/-- Entries have joined the queue and the backlog of link k, each naming a tile ACTIVE on it; the slice is else as it was. -/
structure EntriesJoined (s : State) (k : Link) (l l' : LinkSlice) : Prop where
  kept : l' = { l with queue := l'.queue, backlog := l'.backlog }
  older : ∀ e ∈ l.queue, e ∈ l'.queue
  rules : QueueRules l.queue l.backlog → QueueRules l'.queue l'.backlog
  entries : ∀ e ∈ l'.queue ++ l'.backlog, e ∈ l.queue ++ l.backlog ∨ NamesActive s k e

namespace EntriesJoined

variable {s : State} {k : Link} {l l' l'' : LinkSlice}

theorem refl (s : State) (k : Link) (l : LinkSlice) : EntriesJoined s k l l := ⟨rfl, fun _ => id, id, fun _ => .inl⟩

theorem trans (h : EntriesJoined s k l l') (g : EntriesJoined s k l' l'') : EntriesJoined s k l l'' := by
  refine ⟨?_, fun e he => g.older e (h.older e he), g.rules ∘ h.rules, fun e he => ?_⟩
  · rw [g.kept, h.kept]
  · exact (g.entries e he).elim (h.entries e) .inr

theorem of_tiles {s' : State} (h : EntriesJoined s k l l') (tiles : ∀ u, s.tile u = s'.tile u) : EntriesJoined s' k l l' := by
  obtain ⟨kept, older, rules, entries⟩ := h
  refine ⟨kept, older, rules, fun e he => (entries e he).imp_right fun ⟨active, on⟩ => ?_⟩
  rw [tiles] at active on
  exact ⟨active, on⟩

/-- A SHOW entry of a tile ACTIVE on the link (R79, R80). -/
theorem appendShow (l : LinkSlice) {t : TileIdx} (active : (s.tile t).isActive = true) (n : Byte) :
    EntriesJoined s (s.tile t).link l (l.appendShow (.showTile t n)) := by
  refine ⟨?_, fun e he => ?_, fun h => LinkSlice.queueRules_appendShow h t n, fun e he => ?_⟩
  · unfold LinkSlice.appendShow
    split <;> rfl
  · unfold LinkSlice.appendShow
    split
    · exact List.mem_append_left _ he
    · exact he
  · rw [LinkSlice.entries_appendShow] at he
    rcases List.mem_append.mp he with old | new
    · exact .inl old
    · obtain rfl : e = .showTile t n := by simpa using new
      exact .inr ⟨active, rfl⟩

/-- An entry of a tile ACTIVE on the link joins a queue with room (R49, R71). -/
theorem enqueue {e : Entry} (names : NamesActive s k e) (room : l.hasRoom = true) : EntriesJoined s k l (l.enqueue e) := by
  refine ⟨rfl, fun e he => List.mem_append_left _ he, fun h => ?_, fun e' he => ?_⟩
  · exact h.append (of_decide_eq_true room) e
  · simp only [LinkSlice.enqueue, List.append_assoc, List.mem_append, List.mem_cons, List.not_mem_nil, or_false] at he ⊢
    rcases he with old | rfl | old
    · exact .inl (.inl old)
    · exact .inr names
    · exact .inl (.inr old)

theorem serves (h : EntriesJoined s k l l') (p : Position) : l'.serves p = l.serves p := by
  rw [h.kept]
  rfl

theorem linkRules (h : EntriesJoined s k l l') (up : ∀ e, NamesActive s k e → l.state = .up) (rules : LinkRules l) :
    LinkRules l' := by
  rw [h.kept]
  refine { rules with
    idle := fun down => ?_
    queue := h.rules rules.queue
    dispatch := fun t w b engine => ?_ }
  · obtain ⟨queue, backlog, rest⟩ := rules.idle down
    have empty : l'.queue ++ l'.backlog = [] := by
      refine List.eq_nil_iff_forall_not_mem.mpr fun e he => ?_
      rcases h.entries e he with old | names
      · simp [queue, backlog] at old
      · exact down (up e names)
    obtain ⟨queue', backlog'⟩ := List.append_eq_nil_iff.mp empty
    exact ⟨queue', backlog', rest⟩
  · obtain ⟨inQueue, room⟩ := rules.dispatch t w b engine
    exact ⟨h.older _ inQueue, room⟩

theorem linksSound (h : EntriesJoined s k (s.link k) l') (hs : LinksSound s) : LinksSound (s.setLink k l') :=
  linksSound_setLink hs (h.linkRules (fun _ names => up_of_namesActive hs names) (linkRules_of_linksSound hs k)) h.serves h.entries

end EntriesJoined

/-! ### The SHOW entries of a present (R156) -/

/-- SHOW entries of ACTIVE tiles may have joined the queues, and the participants of the present stay ACTIVE. -/
structure ShowsQueued (s t : State) : Prop where
  tiles : t.tiles = s.tiles
  links : ∀ k, EntriesJoined s k (s.link k) (t.link k)
  participants : ParticipantsActive t

namespace ShowsQueued

variable {s t u : State}

theorem tile (h : ShowsQueued s t) (v : TileIdx) : t.tile v = s.tile v := by simp only [State.tile, h.tiles]

/-- Neither links nor tiles change, and the participants are ACTIVE. -/
theorem of_eq (links : t.links = s.links) (tiles : t.tiles = s.tiles) (participants : ParticipantsActive t) :
    ShowsQueued s t := by
  refine ⟨tiles, fun k => ?_, participants⟩
  have same : t.link k = s.link k := by simp only [State.link, links]
  rw [same]
  exact .refl s k _

theorem refl (participants : ParticipantsActive s) : ShowsQueued s s := of_eq rfl rfl participants

theorem trans (h : ShowsQueued s t) (g : ShowsQueued t u) : ShowsQueued s u :=
  ⟨g.tiles.trans h.tiles, fun k => (h.links k).trans ((g.links k).of_tiles h.tile), g.participants⟩

theorem foldl {α : Type} {f : State → α → State} (h : ∀ s a, ParticipantsActive s → ShowsQueued s (f s a)) (l : List α)
    {s : State} (participants : ParticipantsActive s) : ShowsQueued s (l.foldl f s) := by
  induction l generalizing s with
  | nil => exact refl participants
  | cons a l ih => exact (h s a participants).trans (ih (h s a participants).participants)

theorem linksSound (h : ShowsQueued s t) (hs : LinksSound s) : LinksSound t := by
  refine ⟨fun k => ?_, fun v on => ?_, fun k e he => ?_, h.participants⟩
  · exact (linkSound_iff _).mpr ((h.links k).linkRules (fun _ names => up_of_namesActive hs names) (linkRules_of_linksSound hs k))
  · rw [h.tile] at on ⊢
    rw [hs.2.1 v on, State.canBeActive_eq, State.canBeActive_eq, h.tile, (h.links _).serves]
  · rw [h.tile]
    exact ((h.links k).entries e he).elim (hs.2.2.1 k e) id

end ShowsQueued

section Shows

variable {s : State}

theorem TileSet.has_of (p : TileIdx → Bool) (t : TileIdx) : TileSet.has (TileSet.of p) t = p t := by
  simp [TileSet.has, TileSet.of]

theorem TileSet.has_add (S : TileSet) (t u : TileIdx) : TileSet.has (TileSet.add S t) u = (u == t || TileSet.has S u) :=
  TileSet.has_of _ u

/-- One SHOW entry of an ACTIVE tile. -/
theorem showsQueued_appendShow (participants : ParticipantsActive s) {t : TileIdx} (active : (s.tile t).isActive = true)
    (n : Byte) : ShowsQueued s (s.updateLink (s.tile t).link (·.appendShow (.showTile t n))) := by
  refine ⟨rfl, fun k => ?_, participants⟩
  rw [State.link_updateLink]
  split
  · next same =>
    subst same
    exact .appendShow _ active n
  · exact .refl s k _

/-- Where every participant is ACTIVE, the SHOW entries name ACTIVE tiles (R156). -/
theorem showsQueued_appendShows (active : ∀ t, TileSet.has s.present.participants t = true → (s.tile t).isActive = true) :
    ShowsQueued s s.appendShows := by
  have participants : ParticipantsActive s := fun t has _ => active t has
  have key : ∀ (ts : List TileIdx) (u : State), ShowsQueued s u → (∀ t ∈ ts, (s.tile t).isActive = true) →
      ShowsQueued s (ts.foldl
        (fun u t => u.updateLink (u.tile t).link (·.appendShow (.showTile t u.present.number))) u) := by
    intro ts
    induction ts with
    | nil => exact fun u h _ => h
    | cons t ts ih =>
      intro u h on
      have now : (u.tile t).isActive = true := by rw [h.tile]; exact on t List.mem_cons_self
      exact ih _ (h.trans (showsQueued_appendShow h.participants now _)) fun v hv => on v (List.mem_cons_of_mem _ hv)
  exact key _ s (.refl participants) fun t ht => active t (by simpa using ht)

theorem showsQueued_enterShowing (active : ∀ t, TileSet.has s.present.participants t = true → (s.tile t).isActive = true) :
    ShowsQueued s s.enterShowing :=
  (ShowsQueued.of_eq (s := s) (t := { s with present.state := .showing }) rfl rfl fun t has _ => active t has).trans
    (showsQueued_appendShows active)

/-! ### Reports of a release (R154, R156, R157) -/

theorem showsQueued_reportClearedMark (participants : ParticipantsActive s) : ShowsQueued s s.reportClearedMark := by
  simp only [State.reportClearedMark]
  split
  · next collecting =>
    have active : ∀ t, TileSet.has s.present.participants t = true → (s.tile t).isActive = true :=
      fun t has => participants t has (.inl collecting)
    have counted : ShowsQueued s { s with present := { s.present with remaining := s.present.remaining - 1 } } :=
      .of_eq rfl rfl fun t has _ => active t has
    split
    · exact counted.trans (showsQueued_enterShowing active)
    · exact counted
  · exact .refl participants

theorem showsQueued_endPresent (s : State) (o : PresentOutcome) (t : Option TileIdx) : ShowsQueued s (s.endPresent o t) := by
  have idle : (s.endPresent o t).present.state = .idle := rfl
  obtain ⟨x, p, a, e⟩ := s.endPresent_frame o t
  rw [e] at idle ⊢
  refine .of_eq rfl rfl ((participantsActive_iff _).mpr fun u needed => ?_)
  rw [PresentRecord.needs_idle idle] at needed
  cases needed

theorem showsQueued_reportShow (participants : ParticipantsActive s) (t : TileIdx) (n : Byte) :
    ShowsQueued s (s.reportShow t n) := by
  simp only [State.reportShow]
  split
  · have shown : ShowsQueued s { s with present := { s.present with shown := TileSet.add s.present.shown t } } := by
      refine .of_eq rfl rfl fun u has running => participants u has (running.imp_right fun ⟨showing, outside⟩ => ?_)
      rw [TileSet.has_add, Bool.or_eq_false_iff] at outside
      exact ⟨showing, outside.2⟩
    split
    · exact shown.trans (showsQueued_endPresent _ _ _)
    · exact shown
  · exact .refl participants

theorem showsQueued_releaseEffect (participants : ParticipantsActive s) (r : HoldRecord) :
    ShowsQueued s (s.releaseEffect r) := by
  have acked : ∀ w, ShowsQueued s (s.ackCell r.tile w) := fun w => .of_eq rfl rfl participants
  have cell : ∀ w, ShowsQueued s (State.releaseEffect.ackCellOf s r w) := fun w => by
    unfold State.releaseEffect.ackCellOf
    split
    · exact (acked w).trans (showsQueued_reportClearedMark (acked w).participants)
    · exact acked w
  unfold State.releaseEffect
  split
  · exact .refl participants
  · split
    · exact cell _
    · exact cell _
    · exact showsQueued_reportShow participants _ _
    · exact .refl participants

end Shows

theorem linksKept_endPresent (s : State) (o : PresentOutcome) (t : Option TileIdx) : LinksKept s (s.endPresent o t) :=
  (showsQueued_endPresent s o t).linksSound

/-- The cut of a present takes the ACTIVE tiles for its participants (R153). -/
theorem linksKept_cut (s : State) : LinksKept s s.cut := by
  intro hs
  have active : ∀ t, TileSet.has (TileSet.of fun t => (s.tile t).isActive) t = true → (s.tile t).isActive = true :=
    fun t has => by rwa [TileSet.has_of] at has
  obtain ⟨x, e⟩ : ∃ x, s.setMarks (TileSet.of fun t => (s.tile t).isActive) = { s with cells := x } := ⟨_, rfl⟩
  have marked : ∀ p : PresentRecord, p.participants = TileSet.of (fun t => (s.tile t).isActive) →
      ShowsQueued s { s with cells := x, present := p } :=
    fun p hp => .of_eq rfl rfl fun t has _ => active t (by rwa [← hp])
  simp only [State.cut, e]
  split
  · exact ((marked _ rfl).trans (showsQueued_enterShowing active)).linksSound hs
  · exact (marked _ rfl).linksSound hs

end Sys2Proof.Machine

/-! ## What the operations of the link side leave of the rules -/

namespace Sys2Proof.Machine

open Sys2Proof.Safety

/-! ### Transmitters and capture engines (R92, R93, R97, R125) -/

theorem LinkSlice.handHello_eq (l : LinkSlice) : ∃ tx, l.handHello = { l with tx := tx } := by
  unfold LinkSlice.handHello
  split <;> exact ⟨_, rfl⟩

theorem LinkSlice.endTransmission_eq (l : LinkSlice) : ∃ tx, l.endTransmission = { l with tx := tx } := by
  unfold LinkSlice.endTransmission
  split
  · exact ⟨l.tx, rfl⟩
  · split <;> exact ⟨_, rfl⟩

/-- A transmitter changes alone. -/
theorem LinksKept.updateTx {s : State} {k : Link} {f : LinkSlice → LinkSlice} (h : ∀ l, ∃ tx, f l = { l with tx := tx }) :
    LinksKept s (s.updateLink k f) := by
  obtain ⟨tx, e⟩ := h (s.link k)
  exact .updateLink (fun rules => by rw [e]; exact rules.setTx tx) (fun p => by rw [e]; rfl) (by rw [e]) (by rw [e])

theorem State.setLink_self (s : State) (k : Link) : s.setLink k (s.link k) = s := by
  have links : s.links.set k (s.link k) = s.links := Vector.set_getElem_self _
  simp only [State.setLink, links]

/-- The giving up of a re-read as one change: the capture engine, and perhaps a withdrawn request (R125). -/
theorem State.giveUpReRead_eq (s : State) (k : Link) : ∃ a, s.giveUpReRead k =
    { s.setLink k { s.link k with engine := stoppedReRead (s.holds (.capture k)) (s.link k).engine } with arbiter := a } := by
  have same : ∀ e, (s.link k).engine = e → s.setLink k { s.link k with engine := e } = s := by
    rintro e rfl
    exact s.setLink_self k
  unfold State.giveUpReRead
  cases engine : (s.link k).engine with
  | reRead q =>
    simp only [stoppedReRead]
    split <;> exact ⟨_, rfl⟩
  | idle => exact ⟨s.arbiter, by simp only [stoppedReRead, same _ engine]⟩
  | dispatch t w b => exact ⟨s.arbiter, by simp only [stoppedReRead, same _ engine]⟩
  | abandonedDispatch => exact ⟨s.arbiter, by simp only [stoppedReRead, same _ engine]⟩
  | givenUpReRead => exact ⟨s.arbiter, by simp only [stoppedReRead, same _ engine]⟩

theorem stoppedReRead_cases (holding : Bool) (e : CaptureEngine) :
    stoppedReRead holding e = e ∨ (stoppedReRead holding e).workless := by
  cases e <;> cases holding <;> simp [stoppedReRead, CaptureEngine.workless]

/-- A capture engine of a link that is UP takes up or gives up work, beside what else the state tells of the arbiter. -/
theorem LinksKept.setEngine {s t : State} {k : Link} {e : CaptureEngine}
    (rules : LinkRules (s.link k) → LinkRules { s.link k with engine := e })
    (links : t.links = (s.setLink k { s.link k with engine := e }).links) (tiles : t.tiles = s.tiles)
    (present : t.present = s.present) : LinksKept s t := fun hs =>
  linksSound_congr links tiles present
    (linksSound_setLink hs (rules (linkRules_of_linksSound hs k)) (fun _ => rfl) fun _ => .inl)

theorem linksKept_giveUpReRead (s : State) (k : Link) : LinksKept s (s.giveUpReRead k) := by
  obtain ⟨a, e⟩ := s.giveUpReRead_eq k
  rw [e]
  exact .setEngine (fun rules => rules.stop (stoppedReRead_cases _ _)) rfl rfl rfl

theorem linksKept_freeEngine (s : State) (k : Link) : LinksKept s (s.freeEngine k) :=
  .setEngine (fun rules => rules.stop (.inr (.inl rfl))) rfl rfl rfl

/-! ### Dispatch (R85 to R91) -/

theorem mem_of_oldestEligible {hasCredit : TileIdx → Bool} {older : List TileIdx} {es : List Entry} {e : Entry}
    (h : oldestEligible hasCredit older es = some e) : e ∈ es := by
  induction es generalizing older with
  | nil => cases h
  | cons e' es ih =>
    unfold oldestEligible at h
    split at h
    · exact List.mem_cons_of_mem _ (ih h)
    · split at h
      · split at h
        · cases h
          exact List.mem_cons_self
        · exact List.mem_cons_of_mem _ (ih h)
      all_goals
        cases h
        exact List.mem_cons_self

/-- The completion of a dispatch as one change: the link as `completedLink` says, and cells. -/
theorem State.completeDispatch_eq (s : State) (k : Link) (e : Entry) (body : HoldBody) (payload : List Word) :
    ∃ x, s.completeDispatch k e body payload = { s.setLink k (completedLink s k e body payload) with cells := x } := by
  have link : s.setLink k (completedLink s k e body payload) = s.setLink k
      (let l := s.link k
       let p := (s.tile e.tile).position
       let record : HoldRecord := ⟨l.nextSeq, e.tile, p, false, body⟩
       let l := { l with queue := l.queue.erase e }.refill
       let l := if body.takesSlot then l.setPosition p (l.position p).takeCredit else l
       let l := { l with
         nextSeq := l.nextSeq + 1
         hold := l.hold ++ [record]
         replayTimer := if l.hold.isEmpty then some s.timers.replayTimeout else l.replayTimer
         engine := .idle }
       l.hand (record.frame s.holdIndication payload)) := by
    cases takes : body.takesSlot <;>
      simp [completedLink, takes, List.isEmpty_iff, LinkSlice.refill, LinkSlice.setPosition, LinkSlice.hand,
        HoldRecord.frame, State.holdIndication, Config.queueDepth, LinkSlice.position, PositionRecord.takeCredit]
  rw [link]
  cases e <;> exact ⟨_, rfl⟩

section Completed

variable {s : State} {k : Link} {e : Entry} {body : HoldBody} {payload : List Word}

theorem linkRules_completedLink (rules : LinkRules (s.link k)) (inQueue : e ∈ (s.link k).queue)
    (room : (s.link k).hold.length < 16) : LinkRules (completedLink s k e body payload) where
  idle down := absurd (rules.up_of_queue (List.mem_append_left _ inQueue)) down
  attempt := rules.attempt
  hello := rules.hello
  silence := rules.silence
  replayTimer := by
    have timer := rules.replayTimer
    simp only [completedLink]
    split
    · simp
    · next held =>
      have nonempty : (s.link k).hold.isEmpty = false := by simpa using held
      simp [timer, nonempty]
  queue := .refill (Nat.le_trans List.length_erase_le rules.queue.bound) rules.queue.shows
  holdBound := by
    simp only [completedLink, List.length_append, List.length_cons, List.length_nil]
    omega
  consecutive := holdConsecutive_append rules.consecutive rfl rfl rfl
  replayPoint q point := by
    obtain ⟨r, hr, seq⟩ := rules.replayPoint q point
    exact ⟨r, List.mem_append_left _ hr, seq⟩
  dispatch t w b engine := by cases engine

theorem serves_completedLink (p : Position) : (completedLink s k e body payload).serves p = (s.link k).serves p := by
  have present : ((completedLink s k e body payload).position p).present = ((s.link k).position p).present := by
    simp only [completedLink, LinkSlice.position]
    split
    · simp only [Fin.getElem_fin, getElem_set_link]
      split
      · next same => simp [same]
      · rfl
    · rfl
  simp only [LinkSlice.serves, present]
  rfl

theorem mem_of_mem_completedLink {e' : Entry}
    (h : e' ∈ (completedLink s k e body payload).queue ++ (completedLink s k e body payload).backlog) :
    e' ∈ (s.link k).queue ++ (s.link k).backlog := by
  simp only [completedLink, List.append_assoc, List.take_append_drop] at h
  exact (List.mem_append.mp h).elim (fun h => List.mem_append_left _ (List.mem_of_mem_erase h)) (List.mem_append_right _)

/-- A dispatch of a queued entry completes, beside what else the state tells of the arbiter. -/
theorem linksKept_completeDispatch (inQueue : e ∈ (s.link k).queue) (room : (s.link k).hold.length < 16) :
    LinksKept s (s.completeDispatch k e body payload) := fun hs => by
  obtain ⟨x, eq⟩ := s.completeDispatch_eq k e body payload
  rw [eq]
  exact linksSound_congr rfl rfl rfl (linksSound_setLink hs
    (linkRules_completedLink (linkRules_of_linksSound hs k) inQueue room) serves_completedLink
    fun _ he => .inl (mem_of_mem_completedLink he))

end Completed

/-- A capture engine asks for the store band of a queued CELL entry (R87). -/
theorem linksKept_askCapture {s : State} {k : Link} {t : TileIdx} {w : WallBand}
    (inQueue : Entry.cell t w ∈ (s.link k).queue) (room : (s.link k).hold.length < 16) (b : StoreBand) :
    LinksKept s (s.askCapture k t w b) := by
  refine .setEngine (fun rules => rules.setEngine (fun down => ?_) fun t' w' b' engine => ?_) rfl rfl rfl
  · exact absurd (rules.up_of_queue (List.mem_append_left _ inQueue)) down
  · cases engine
    exact ⟨inQueue, room⟩

theorem linksKept_select (s : State) (k : Link) : LinksKept s (s.select k) := by
  unfold State.select
  split
  · next may =>
    have room : (s.link k).hold.length < 16 := by
      simp only [LinkSlice.maySelect, Bool.and_eq_true, decide_eq_true_eq] at may
      exact may.1.2
    split
    · exact .refl s
    · next eligible =>
      split
      · exact linksKept_completeDispatch (mem_of_oldestEligible eligible) room
      · exact linksKept_askCapture (mem_of_oldestEligible eligible) room _
    · next eligible => exact linksKept_completeDispatch (mem_of_oldestEligible eligible) room
    · next eligible => exact linksKept_completeDispatch (mem_of_oldestEligible eligible) room
  · exact .refl s

theorem linksKept_endCapture (s : State) (k : Link) : LinksKept s (s.endCapture k) := by
  intro hs
  have released : ∀ t : State, LinksKept t t.releaseGrant := fun _ => .of_eq rfl rfl rfl
  unfold State.endCapture
  split
  · next engine =>
    obtain ⟨inQueue, room⟩ := (linkRules_of_linksSound hs k).dispatch _ _ _ engine
    split
    · exact released _ (linksKept_completeDispatch inQueue room hs)
    · split
      · exact released _ (linksKept_completeDispatch inQueue room hs)
      · exact linksKept_askCapture (s := s.releaseGrant) inQueue room _ (released s hs)
  · exact linksKept_freeEngine s k hs
  all_goals exact hs

/-- The Walker queues a cell of an ACTIVE tile on its link, which has room (R71). -/
theorem linksKept_examine (s : State) : LinksKept s s.examine := by
  intro hs
  have moved : LinksSound { s with walker := s.walker.next } := linksSound_congr rfl rfl rfl hs
  simp only [State.examine]
  split
  · next queues =>
    simp only [State.walkerQueues, Bool.and_eq_true] at queues
    obtain ⟨⟨⟨-, active⟩, room⟩, -⟩ := queues
    exact linksSound_congr rfl rfl rfl
      ((EntriesJoined.enqueue (s := { s with walker := s.walker.next }) 
        (e := .cell s.walker.tile s.walker.band) ⟨active, rfl⟩ room).linksSound moved)
  · exact moved

end Sys2Proof.Machine

namespace Sys2Proof.Machine

open Sys2Proof.Safety

/-! ### Attempts (R115 to R118, R132 to R134) -/

/-- An attempt begins on a link without work (R115). -/
theorem linkRules_beginAttempt {l : LinkSlice} (idle : LinkIdle l) (replayTimer : l.replayTimer = none)
    (silenceTimer : l.silenceTimer = none) (time : Nat) : LinkRules (l.beginAttempt time) := by
  obtain ⟨queue, backlog, hold, replayPoint, positions, engine⟩ := idle
  obtain ⟨tx, e⟩ := LinkSlice.handHello_eq
    { l with state := .training, partnerHeard := false, attemptTimer := some time, helloInterval := true }
  rw [LinkSlice.beginAttempt, e]
  exact .of_no_work queue backlog hold replayPoint replayTimer engine (fun _ => positions) rfl rfl
    (by rw [silenceTimer]; rfl)

theorem LinkRules.beginAttempt {l : LinkSlice} (h : LinkRules l) (down : l.state ≠ .up) (time : Nat) :
    LinkRules (l.beginAttempt time) := by
  obtain ⟨-, -, hold, -⟩ := h.idle down
  exact linkRules_beginAttempt (h.idle down) (h.replayTimer_none hold) (h.silenceTimer_none down) time

theorem LinkSlice.state_beginAttempt (l : LinkSlice) (time : Nat) : (l.beginAttempt time).state = .training := by
  obtain ⟨tx, e⟩ := LinkSlice.handHello_eq
    { l with state := .training, partnerHeard := false, attemptTimer := some time, helloInterval := true }
  rw [LinkSlice.beginAttempt, e]

theorem LinkRules.entries_nil {l : LinkSlice} (h : LinkRules l) (down : l.state ≠ .up) : l.queue ++ l.backlog = [] := by
  obtain ⟨queue, backlog, -⟩ := h.idle down
  rw [queue, backlog]
  rfl

/-- A link that is not UP goes to another state that is not UP. -/
theorem LinksKept.moveLink {s : State} {k : Link} {f : LinkSlice → LinkSlice} (down : (s.link k).state ≠ .up)
    (rules : LinkRules (s.link k) → LinkRules (f (s.link k))) (down' : (f (s.link k)).state ≠ .up) :
    LinksKept s (s.updateLink k f) := fun hs => by
  have moved := rules (linkRules_of_linksSound hs k)
  refine linksSound_setLink hs moved (fun p => ?_) fun e he => ?_
  · rw [LinkSlice.serves_of_down down, LinkSlice.serves_of_down down']
  · rw [moved.entries_nil down'] at he
    cases he

theorem linksKept_beginAttempt {s : State} {k : Link} (down : (s.link k).state ≠ .up) : LinksKept s (s.beginAttempt k) :=
  .moveLink down (fun rules => rules.beginAttempt down _) (by simp [LinkSlice.state_beginAttempt])

/-- The attempt count tells nothing of the rules. -/
theorem linksKept_attemptCount (s : State) (k : Link) (n : Nat) :
    LinksKept s (s.updateLink k fun l => { l with attemptCount := n }) :=
  .updateLink (fun rules => { rules with }) (fun _ => rfl) rfl rfl

theorem linksKept_freshAttempt {s : State} {k : Link} (down : (s.link k).state ≠ .up) : LinksKept s (s.freshAttempt k) :=
  (linksKept_attemptCount s k 0).trans (linksKept_beginAttempt (by simpa using down))

theorem linksKept_switchOff {s : State} {k : Link} (down : (s.link k).state ≠ .up) :
    LinksKept s (s.updateLink k (·.switchOff)) :=
  .moveLink down (fun rules => rules.move down (by simp [LinkSlice.switchOff]) rfl rfl rfl) (by simp [LinkSlice.switchOff])

theorem linksKept_attemptTimedOut {s : State} {k : Link} (down : (s.link k).state ≠ .up) :
    LinksKept s (s.attemptTimedOut k) := by
  have counted := linksKept_attemptCount s k ((s.link k).attemptCount + 1)
  have down' : ((s.updateLink k fun l => { l with attemptCount := (s.link k).attemptCount + 1 }).link k).state ≠ .up := by
    simpa using down
  simp only [State.attemptTimedOut]
  generalize s.updateLink k (fun l => { l with attemptCount := (s.link k).attemptCount + 1 }) = u at counted down'
  split
  · have faulty : LinksKept u (u.updateLink k fun l => { l.endAttempt with state := .fault, partnerHeard := false }) :=
      .moveLink down' (fun rules => rules.move down' (by simp) rfl rfl rfl) (by simp)
    exact (counted.trans faulty).trans (.of_eq rfl rfl rfl)
  · exact counted.trans (linksKept_beginAttempt down')

/-- The rules tell that a link whose attempt timer runs is in TRAINING (R115). -/
theorem LinkRules.down_of_attemptTimer {l : LinkSlice} (h : LinkRules l) (runs : l.attemptTimer.isSome = true) :
    l.state ≠ .up := by
  have training := h.attempt
  rw [runs, eq_comm, beq_iff_eq] at training
  simp [training]

theorem LinkRules.up_of_silenceTimer {l : LinkSlice} (h : LinkRules l) (runs : l.silenceTimer.isSome = true) :
    l.state = .up := by
  have up := h.silence
  rwa [runs, eq_comm, beq_iff_eq] at up

/-! ### Entry to UP (R40, R117, R140) -/

/-- Whether a tile becomes ACTIVE when link k comes UP: it is enabled, and its chain position is present on k (R40). -/
def State.joins (s : State) (k : Link) (t : TileIdx) : Bool :=
  (s.tile t).enabled && (s.tile t).link == k && ((s.link k).position (s.tile t).position).present

/-- A tile record made ACTIVE. -/
def TileRecord.activate (r : TileRecord) : TileRecord := { r with state := .active }

theorem State.tile_joinTile (s : State) (k : Link) (t u : TileIdx) : (State.joinTile k s t).tile u =
    if u = t ∧ s.joins k u = true then (s.tile u).activate else s.tile u := by
  by_cases same : u = t
  · subst same
    simp only [State.joinTile, State.joins]
    cases (s.tile u).enabled && (s.tile u).link == k
    · simp
    · cases ((s.link k).position (s.tile u).position).present <;> simp [State.tile_setTile, TileRecord.activate]
  · rw [if_neg fun h => same h.1]
    simp only [State.joinTile]
    split
    · split
      · rw [State.tile_attend, State.tile_setTile, if_neg same]
      · rfl
    · rfl

theorem State.link_joinTile (s : State) (k j : Link) (t : TileIdx) : (State.joinTile k s t).link j = s.link j := by
  simp only [State.joinTile]
  split
  · split <;> rfl
  · rfl

theorem State.joins_joinTile (s : State) (k : Link) (t u : TileIdx) : (State.joinTile k s t).joins k u = s.joins k u := by
  rw [State.joins, State.link_joinTile, State.tile_joinTile]
  split
  · next joined =>
    obtain ⟨-, joins⟩ := joined
    rw [joins]
    simp only [State.joins, Bool.and_eq_true] at joins ⊢
    exact ⟨⟨rfl, joins.1.2⟩, joins.2⟩
  · rfl

theorem State.link_joinTiles (k : Link) (ts : List TileIdx) (s : State) (j : Link) :
    (ts.foldl (State.joinTile k) s).link j = s.link j := by
  induction ts generalizing s with
  | nil => rfl
  | cons t ts ih => rw [List.foldl_cons, ih, State.link_joinTile]

theorem State.tile_joinTiles (k : Link) (ts : List TileIdx) (s : State) (u : TileIdx) :
    (ts.foldl (State.joinTile k) s).tile u =
      if u ∈ ts ∧ s.joins k u = true then (s.tile u).activate else s.tile u := by
  induction ts generalizing s with
  | nil => simp
  | cons t ts ih =>
    have again : ∀ r : TileRecord, r.activate.activate = r.activate := fun _ => rfl
    rw [List.foldl_cons, ih, State.joins_joinTile, State.tile_joinTile]
    by_cases joins : s.joins k u = true
    · by_cases first : u = t
      · subst first
        simp [joins, again]
      · simp [joins, first]
    · simp [joins]

section EnterUp

variable {s : State} {k : Link} {n : BitVec 3} {capacity restart : Vector Nibble 4}

/-- The link after the entry to UP: its own part, and the closing HELLO in its transmitter (R117). -/
theorem State.link_enterUp (j : Link) : (s.enterUp k n capacity restart).link j =
    if j = k then ((s.link k).enterUp s.timers.silenceTimeout n capacity restart).handHello else s.link j := by
  simp only [State.enterUp]
  rw [State.link_updateLink, State.link_joinTiles, State.link_joinTiles, State.link_attend, State.link_attend,
    State.link_updateLink_self, State.link_updateLink]
  split <;> rfl

theorem State.present_enterUp : (s.enterUp k n capacity restart).present = s.present := by
  obtain ⟨x, a, e⟩ := State.joinTiles_frame k (List.finRange 16)
    ((s.updateLink k (·.enterUp s.timers.silenceTimeout n capacity restart)).attend (.linkUp k))
  simp only [State.enterUp, e]
  rfl

theorem State.tile_enterUp (u : TileIdx) : (s.enterUp k n capacity restart).tile u =
    if (s.updateLink k (·.enterUp s.timers.silenceTimeout n capacity restart)).joins k u = true then
      (s.tile u).activate else s.tile u := by
  simp only [State.enterUp, State.tile_updateLink]
  rw [State.tile_joinTiles]
  simp only [List.mem_finRange, true_and]
  rfl

/-- The link's own part of the entry to UP, the chain positions apart: it has no work, and its silence timer runs. -/
theorem linkRules_enterUp {l : LinkSlice} (h : LinkRules l) (down : l.state ≠ .up) (time : Nat) :
    LinkRules (l.enterUp time n capacity restart) := by
  obtain ⟨queue, backlog, hold, replayPoint, -, engine⟩ := h.idle down
  exact .of_no_work queue backlog hold replayPoint (h.replayTimer_none hold) engine (fun g => absurd rfl g) rfl rfl rfl

/-- A link in TRAINING comes UP: of its enabled tiles those at present positions become ACTIVE (R39, R40). -/
theorem linksKept_enterUp (down : (s.link k).state ≠ .up) : LinksKept s (s.enterUp k n capacity restart) := by
  intro hs
  obtain ⟨links, states, names, participants⟩ := hs
  have rules : LinkRules (s.link k) := (linkSound_iff _).mp (links k)
  have link := State.link_enterUp (s := s) (k := k) (n := n) (capacity := capacity) (restart := restart)
  have tile := State.tile_enterUp (s := s) (k := k) (n := n) (capacity := capacity) (restart := restart)
  have present := State.present_enterUp (s := s) (k := k) (n := n) (capacity := capacity) (restart := restart)
  have raised := linkRules_enterUp (n := n) (capacity := capacity) (restart := restart) rules down s.timers.silenceTimeout
  have empty : ((s.link k).enterUp s.timers.silenceTimeout n capacity restart).queue ++
      ((s.link k).enterUp s.timers.silenceTimeout n capacity restart).backlog = [] := rules.entries_nil down
  have serves : ∀ p, ((s.link k).enterUp s.timers.silenceTimeout n capacity restart).serves p =
      (((s.link k).enterUp s.timers.silenceTimeout n capacity restart).position p).present := fun _ => rfl
  have joins : ∀ u, (s.updateLink k (·.enterUp s.timers.silenceTimeout n capacity restart)).joins k u =
      ((s.tile u).enabled && (s.tile u).link == k &&
        (((s.link k).enterUp s.timers.silenceTimeout n capacity restart).position (s.tile u).position).present) := fun u => by
    rw [State.joins, State.link_updateLink_self]
    rfl
  obtain ⟨tx, hello⟩ := LinkSlice.handHello_eq ((s.link k).enterUp s.timers.silenceTimeout n capacity restart)
  generalize s.enterUp k n capacity restart = t at link tile present
  generalize (s.link k).enterUp s.timers.silenceTimeout n capacity restart = l at link raised empty serves joins hello
  have stillActive : ∀ u, (s.tile u).isActive = true → (t.tile u).isActive = true := fun u active => by
    rw [tile]
    split
    · rfl
    · exact active
  have sameLink : ∀ u, (t.tile u).link = (s.tile u).link := fun u => by
    rw [tile]
    split <;> rfl
  have samePosition : ∀ u, (t.tile u).position = (s.tile u).position := fun u => by
    rw [tile]
    split <;> rfl
  rw [hello] at link
  refine ⟨fun j => ?_, fun u on => ?_, fun j e he => ?_, fun u has running => ?_⟩
  · rw [link]
    split
    · exact (linkSound_iff _).mpr (raised.setTx tx)
    · exact links j
  · rw [State.canBeActive_eq, link, sameLink, samePosition]
    by_cases here : (s.tile u).link = k
    · rw [if_pos here]
      have was : (s.tile u).enabled = true := by
        rw [tile] at on
        split at on
        · next joined =>
          rw [joins, Bool.and_eq_true, Bool.and_eq_true] at joined
          exact joined.1.1
        · exact on
      have joined := joins u
      rw [was, here, beq_self_eq_true, Bool.true_and, Bool.true_and] at joined
      change _ = l.serves _
      rw [serves, tile, joined]
      cases (l.position (s.tile u).position).present with
      | true => rfl
      | false =>
        rw [if_neg (by simp), states u was, State.canBeActive_eq, here, LinkSlice.serves_of_down down]
    · rw [if_neg here]
      have stays : t.tile u = s.tile u := by
        rw [tile, joins, beq_eq_false_iff_ne.mpr here]
        simp
      rw [stays] at on ⊢
      exact states u on
  · rw [link] at he
    split at he
    · exact absurd (empty ▸ he) List.not_mem_nil
    · obtain ⟨active, on⟩ := names j e he
      exact ⟨stillActive _ active, (sameLink _).trans on⟩
  · rw [present] at has running
    exact stillActive u (participants u has running)

end EnterUp

end Sys2Proof.Machine

namespace Sys2Proof.Machine

open Sys2Proof.Safety

/-! ### Loss (R131) -/

theorem departed_of_same_result {s t t' : State} {a : Attention} {ts : List TileIdx} {es : List Entry}
    (h : Departed s t a ts es) (present : t'.present = t.present) (query : t'.query = t.query)
    (cells : t'.cells = t.cells) (attention : t'.attention = t.attention) : Departed s t' a ts es := by
  have cell : ∀ u w, t'.cell u w = t.cell u w := fun u w => by simp only [State.cell, cells]
  simpa only [Departed, present, query, cell, attention] using h

/-- A present that still runs after departures needs none of the tiles that left. -/
theorem needs_of_departed {s t : State} {a : Attention} {ts : List TileIdx} {es : List Entry} (h : Departed s t a ts es)
    {u : TileIdx} (needed : t.present.needs u = true) : s.present.needs u = true ∧ u ∉ ts := by
  obtain ⟨present, -⟩ := h
  rw [present] at needed
  cases ender : presentEnder s.present ts es with
  | some v =>
    rw [ender, Option.isSome_some, if_pos rfl, PresentRecord.needs_idle rfl] at needed
    cases needed
  | none =>
    rw [ender, Option.isSome_none, if_neg Bool.false_ne_true] at needed
    refine ⟨needed, fun left => ?_⟩
    rw [not_needs_of_presentEnder ender left] at needed
    cases needed

theorem State.afterLoss_frame (s : State) (k : Link) (off : Bool) : ∃ l, s.afterLoss k off = { s with links := l } := by
  cases off <;> exact ⟨_, rfl⟩

section Loss

variable (s : State) (k : Link) (reason : LossReason) (off : Bool)

/-- A loss up to the departures of its tiles, and what follows them. -/
theorem State.loseLink_eq : ∃ s₁ : State,
    s.loseLink k reason off =
      (s₁.leaveActive (s.activeTiles k) ((s.link k).queue ++ (s.link k).backlog)).afterLoss k off ∧
    s₁.tiles = (s.makeWaiting (s.activeTiles k)).tiles ∧ s₁.present = s.present ∧ s₁.query = s.query ∧
    s₁.cells = s.cells ∧ s₁.attention = s.attention.append (.linkLost k reason) := by
  obtain ⟨w, e, -⟩ := (s.attend (.linkLost k reason)).stopEngine_eq k
  simp only [State.loseLink, e]
  exact ⟨_, rfl, rfl, rfl, rfl, rfl, rfl⟩

theorem State.tile_makeWaiting (ts : List TileIdx) (u : TileIdx) : (s.makeWaiting ts).tile u =
    if u ∈ ts then { s.tile u with state := .waiting } else s.tile u := by
  simp [State.makeWaiting, State.tile]

/-- The ACTIVE tiles of a lost link become WAITING (R131). -/
theorem State.tile_loseLink (u : TileIdx) : (s.loseLink k reason off).tile u =
    if u ∈ s.activeTiles k then { s.tile u with state := .waiting } else s.tile u := by
  obtain ⟨s₁, eq, tiles, -⟩ := s.loseLink_eq k reason off
  obtain ⟨x, p, q, a, n, left⟩ := s₁.leaveActive_frame (s.activeTiles k) ((s.link k).queue ++ (s.link k).backlog)
  rw [left] at eq
  obtain ⟨l, after⟩ := State.afterLoss_frame
    { s₁ with cells := x, present := p, query := q, attention := a, freeCount := n } k off
  rw [eq, after, ← State.tile_makeWaiting]
  simp only [State.tile, tiles]

/-- What the departures of a loss do (R41, R131). -/
theorem departed_loseLink : Departed s (s.loseLink k reason off) (s.attention.append (.linkLost k reason))
    (s.activeTiles k) ((s.link k).queue ++ (s.link k).backlog) := by
  obtain ⟨s₁, eq, tiles, present, query, cells, attention⟩ := s.loseLink_eq k reason off
  have left := departed_leaveActive s₁ (s.activeTiles k) ((s.link k).queue ++ (s.link k).backlog)
  generalize s₁.leaveActive (s.activeTiles k) ((s.link k).queue ++ (s.link k).backlog) = t at eq left
  obtain ⟨l, after⟩ := t.afterLoss_frame k off
  rw [attention] at left
  rw [eq, after]
  refine departed_of_same_result (departed_of_same left present query cells fun u => ?_) rfl rfl rfl rfl
  have tile : s₁.tile u = (s.makeWaiting (s.activeTiles k)).tile u := by simp only [State.tile, tiles]
  rw [tile, State.tile_makeWaiting]
  split
  · exact ⟨_, rfl⟩
  · exact ⟨(s.tile u).state, rfl⟩

variable {s k reason off}

theorem mem_activeTiles {u : TileIdx} :
    u ∈ s.activeTiles k ↔ (s.tile u).isActive = true ∧ (s.tile u).link = k := by
  simp [State.activeTiles]

theorem positionAbsent_allAbsent (l : LinkSlice) (p : Position) : PositionAbsent (l.allAbsent.position p) := by
  simp [PositionAbsent, LinkSlice.allAbsent, LinkSlice.position, PositionRecord.absent]

/-- A link that drops out of UP has no work left (R131). -/
theorem LinkRules.dropUp {l : LinkSlice} (h : LinkRules l) (up : l.state = .up) {e : CaptureEngine} (stopped : e.workless) :
    LinkRules (LinkSlice.dropUp { l with engine := e }) := by
  have attempt := h.attempt
  have hello := h.hello
  rw [up] at attempt hello
  exact .of_no_work rfl rfl rfl rfl rfl stopped (fun _ => positionAbsent_allAbsent _) attempt hello rfl

theorem linkRules_loseLink (hs : LinksSound s) (up : (s.link k).state = .up) :
    LinkRules ((s.loseLink k reason off).link k) ∧ ((s.loseLink k reason off).link k).state ≠ .up := by
  have dropped := (linkRules_of_linksSound hs k).dropUp up
    (CaptureEngine.workless_stoppedEngine (s.holds (.capture k)) (s.link k).engine)
  have down : (LinkSlice.dropUp { s.link k with
      engine := stoppedEngine (s.holds (.capture k)) (s.link k).engine }).state ≠ .up := by
    simp [LinkSlice.dropUp]
  rw [State.link_loseLink, if_pos rfl]
  cases off with
  | true => exact ⟨{ dropped with }, down⟩
  | false =>
    refine ⟨dropped.beginAttempt down _, ?_⟩
    rw [if_neg Bool.false_ne_true, LinkSlice.state_beginAttempt]
    simp

/-- The loss of a link that is UP (R131). -/
theorem linksSound_loseLink (hs : LinksSound s) (up : (s.link k).state = .up) :
    LinksSound (s.loseLink k reason off) := by
  obtain ⟨rules, down⟩ := linkRules_loseLink (reason := reason) (off := off) hs up
  obtain ⟨links, states, names, participants⟩ := hs
  have other : ∀ j, j ≠ k → (s.loseLink k reason off).link j = s.link j := fun j hj => by
    rw [State.link_loseLink, if_neg hj]
  have tile := s.tile_loseLink k reason off
  have departed := departed_loseLink s k reason off
  generalize s.loseLink k reason off = t at rules down other tile departed
  refine ⟨fun j => ?_, fun u on => ?_, fun j e he => ?_, (participantsActive_iff t).mpr fun u needed => ?_⟩
  · by_cases lost : j = k
    · rw [lost]
      exact (linkSound_iff _).mpr rules
    · rw [other j lost]
      exact links j
  · by_cases leaves : u ∈ s.activeTiles k
    · obtain ⟨-, here⟩ := mem_activeTiles.mp leaves
      rw [State.canBeActive_eq, tile, if_pos leaves]
      simp only [here]
      rw [LinkSlice.serves_of_down down]
      rfl
    · rw [tile, if_neg leaves] at on
      rw [State.canBeActive_eq, tile, if_neg leaves]
      by_cases here : (s.tile u).link = k
      · rw [here, LinkSlice.serves_of_down down]
        exact Bool.eq_false_iff.mpr fun active => leaves (mem_activeTiles.mpr ⟨active, here⟩)
      · rw [other _ here, states u on, State.canBeActive_eq]
  · by_cases lost : j = k
    · rw [lost, rules.entries_nil down] at he
      cases he
    · rw [other j lost] at he
      obtain ⟨active, on⟩ := names j e he
      have stays : e.tile ∉ s.activeTiles k := fun leaves => lost (on.symm.trans (mem_activeTiles.mp leaves).2)
      rw [tile, if_neg stays]
      exact ⟨active, on⟩
  · obtain ⟨before, stays⟩ := needs_of_departed departed needed
    rw [tile, if_neg stays]
    exact (participantsActive_iff s).mp participants u before

end Loss

end Sys2Proof.Machine

namespace Sys2Proof.Machine

open Sys2Proof.Safety

/-! ### Release and replay (R119 to R128) -/

/-- A link whose n oldest records are released, the replay timer restarted or stopped (R120, R124). -/
def LinkSlice.dropRecords (l : LinkSlice) (n : Nat) (timeout : Nat) : LinkSlice :=
  { l with
    hold := l.hold.drop n, replayCount := 0
    replayTimer := if (l.hold.drop n).isEmpty then none else some timeout }

theorem linkRules_dropRecords {l : LinkSlice} (h : LinkRules l) (up : l.state = .up) (n timeout : Nat) {p : Option SeqNo}
    (held : ∀ q, p = some q → ∃ r ∈ l.hold.drop n, r.seq = q) :
    LinkRules { l.dropRecords n timeout with replayPoint := p } :=
  { h with
    idle := fun down => absurd up down
    replayTimer := by
      simp only [LinkSlice.dropRecords]
      cases (l.hold.drop n).isEmpty <;> rfl
    holdBound := by
      have bound := h.holdBound
      simp only [LinkSlice.dropRecords, List.length_drop]
      omega
    consecutive := holdConsecutive_drop h.consecutive rfl rfl
    replayPoint := held
    dispatch := fun t w b engine => by
      obtain ⟨inQueue, room⟩ := h.dispatch t w b engine
      refine ⟨inQueue, ?_⟩
      simp only [LinkSlice.dropRecords, List.length_drop]
      omega }

theorem EntriesJoined.setReplayPoint {s : State} {k : Link} {l l' : LinkSlice} (h : EntriesJoined s k l l') (p : Option SeqNo) :
    EntriesJoined s k { l with replayPoint := p } { l' with replayPoint := p } := by
  obtain ⟨kept, older, rules, entries⟩ := h
  refine ⟨?_, older, rules, entries⟩
  rw [kept]

/-- A replay point that was not released is still held (R128). -/
theorem held_of_not_released {l : LinkSlice} (h : LinkRules l) {n : Nat} {q : SeqNo} (point : l.replayPoint = some q)
    (stays : (l.hold.take n).any (fun r => r.seq == q) = false) : ∃ r ∈ l.hold.drop n, r.seq = q := by
  obtain ⟨r, hr, seq⟩ := h.replayPoint q point
  rw [← List.take_append_drop n l.hold, List.mem_append] at hr
  refine ⟨r, hr.resolve_left fun gone => ?_, seq⟩
  have absent := List.any_eq_false.mp stays r gone
  simp [seq] at absent

/-- A replay goes on from another point, its re-read given up, as one change (R125, R128). -/
theorem State.giveUpReRead_updateReplayPoint (s : State) (k : Link) (p : Option SeqNo) : ∃ a,
    ((s.giveUpReRead k).updateLink k fun l => { l with replayPoint := p }) = { s.setLink k { s.link k with
      replayPoint := p, engine := stoppedReRead (s.holds (.capture k)) (s.link k).engine } with arbiter := a } := by
  obtain ⟨a, e⟩ := s.giveUpReRead_eq k
  refine ⟨a, ?_⟩
  simp only [e, State.updateLink, State.setLink, State.link, Vector.set_set, Fin.getElem_fin, Vector.getElem_set_self]

/-- The state in which n records have been released and their effects have taken place, but the replay point is as before. -/
def State.releaseRecords (s : State) (k : Link) (n : Nat) : State :=
  ((s.link k).hold.take n).foldl State.releaseEffect (s.setLink k ((s.link k).dropRecords n s.timers.replayTimeout))

/-- Everything a release can do: nothing; the records go and the replay point stays; or the replay point goes on (R120, R128). -/
theorem State.release_cases (s : State) (k : Link) (n : Nat) :
    ((s.link k).hold.take n = [] ∧ s.release k n = s) ∨
    ((s.link k).hold.take n ≠ [] ∧
      (∀ q, (s.link k).replayPoint = some q → ((s.link k).hold.take n).any (fun r => r.seq == q) = false) ∧
      s.release k n = s.releaseRecords k n) ∨
    ((s.link k).hold.take n ≠ [] ∧ s.release k n = ((s.releaseRecords k n).giveUpReRead k).updateLink k fun l =>
      { l with replayPoint := ((s.link k).hold.drop n).head?.map (·.seq) }) := by
  by_cases nothing : (s.link k).hold.take n = []
  · exact .inl ⟨nothing, by simp [State.release, nothing]⟩
  have unfolded : s.release k n = match (s.link k).replayPoint with
      | none => s.releaseRecords k n
      | some p =>
        if ((s.link k).hold.take n).any fun r => r.seq == p then
          ((s.releaseRecords k n).giveUpReRead k).updateLink k fun l =>
            { l with replayPoint := ((s.link k).hold.drop n).head?.map (·.seq) }
        else s.releaseRecords k n := by
    have nonempty : ((s.link k).hold.take n).isEmpty = false := by simpa using nothing
    simp only [State.release, nonempty, Bool.false_eq_true, if_false] <;> rfl
  rw [unfolded]
  cases point : (s.link k).replayPoint with
  | none => exact .inr (.inl ⟨nothing, by simp, rfl⟩)
  | some p =>
    cases gone : ((s.link k).hold.take n).any fun r => r.seq == p with
    | true => exact .inr (.inr ⟨nothing, by simp [gone]⟩)
    | false =>
      refine .inr (.inl ⟨nothing, fun q h => ?_, by simp [gone]⟩)
      cases h
      exact gone

/-- A release keeps the rules, and leaves the younger records and the link's state (R120, R128). -/
theorem linksSound_release {s : State} (hs : LinksSound s) (k : Link) (n : Nat) : LinksSound (s.release k n) ∧
    ((s.release k n).link k).hold = (s.link k).hold.drop n ∧ ((s.release k n).link k).state = (s.link k).state := by
  have rules := linkRules_of_linksSound hs k
  have drops : ∀ {p}, (∀ q, p = some q → ∃ r ∈ (s.link k).hold.drop n, r.seq = q) → (s.link k).state = .up →
      LinksSound (s.setLink k { (s.link k).dropRecords n s.timers.replayTimeout with replayPoint := p }) :=
    fun held up => linksSound_setLink hs (linkRules_dropRecords rules up n _ held) (fun _ => rfl) fun _ => .inl
  have queued : ShowsQueued (s.setLink k ((s.link k).dropRecords n s.timers.replayTimeout)) (s.releaseRecords k n) :=
    .foldl (fun _ r participants => showsQueued_releaseEffect participants r) _ hs.2.2.2
  have joined := queued.links k
  rw [State.link_setLink_self] at joined
  have up_of : (s.link k).hold.take n ≠ [] → (s.link k).state = .up := fun some =>
    rules.up_of_hold fun none => some (by rw [none, List.take_nil])
  rcases s.release_cases k n with ⟨nothing, eq⟩ | ⟨some, stays, eq⟩ | ⟨some, eq⟩
  · rw [eq]
    have all : (s.link k).hold.drop n = (s.link k).hold := by
      have parts := List.take_append_drop n (s.link k).hold
      rwa [nothing, List.nil_append] at parts
    exact ⟨hs, all.symm, rfl⟩
  · rw [eq, joined.kept]
    exact ⟨queued.linksSound (drops (fun q point => held_of_not_released rules point (stays q point)) (up_of some)), rfl, rfl⟩
  · have youngest : ∀ q, ((s.link k).hold.drop n).head?.map (·.seq) = Option.some q →
        ∃ r ∈ (s.link k).hold.drop n, r.seq = q := fun q head => by
      obtain ⟨r, first, seq⟩ := Option.map_eq_some_iff.mp head
      exact ⟨r, List.mem_of_mem_head? first, seq⟩
    have before := drops youngest (up_of some)
    rw [eq]
    generalize ((s.link k).hold.drop n).head?.map (·.seq) = p at before
    generalize s.releaseRecords k n = u at queued joined
    have pointed : ShowsQueued
        (s.setLink k { (s.link k).dropRecords n s.timers.replayTimeout with replayPoint := p })
        (u.updateLink k fun l => { l with replayPoint := p }) := by
      refine ⟨queued.tiles, fun j => ?_, queued.participants⟩
      rw [State.link_setLink, State.link_updateLink]
      split
      · next same =>
        subst same
        exact (joined.setReplayPoint p).of_tiles fun _ => rfl
      · next other =>
        have there := queued.links j
        rw [State.link_setLink, if_neg other] at there
        exact there.of_tiles fun _ => rfl
    obtain ⟨a, stopped⟩ := u.giveUpReRead_updateReplayPoint k p
    rw [stopped]
    have link : ∀ l : LinkSlice, ({ u.setLink k l with arbiter := a } : State).link k = l := fun l => u.link_setLink_self k l
    have stop : LinksKept (u.updateLink k fun l => { l with replayPoint := p }) { u.setLink k { u.link k with
        replayPoint := p, engine := stoppedReRead (u.holds (.capture k)) (u.link k).engine } with arbiter := a } := by
      refine .setEngine (k := k) (e := stoppedReRead (u.holds (.capture k)) (u.link k).engine)
        (fun rules => rules.stop ?_) ?_ rfl rfl
      · rw [State.link_updateLink_self]
        exact stoppedReRead_cases _ _
      · simp only [State.updateLink, State.setLink, State.link, Vector.set_set, Fin.getElem_fin, Vector.getElem_set_self]
    refine ⟨stop (pointed.linksSound before), ?_, ?_⟩
    · rw [link, joined.kept]
      rfl
    · rw [link, joined.kept]
      rfl

/-- A replay begins from a held record (R125). -/
theorem linksSound_beginReplay {s : State} (hs : LinksSound s) {k : Link} {q : SeqNo}
    (held : ∃ r ∈ (s.link k).hold, r.seq = q) : LinksSound (s.beginReplay k q) := by
  obtain ⟨a, stopped⟩ := s.giveUpReRead_eq k
  have kept := linksKept_giveUpReRead s k hs
  have hold : ((s.giveUpReRead k).link k).hold = (s.link k).hold := by
    rw [stopped]
    exact (congrArg LinkSlice.hold (s.link_setLink_self k _)).trans rfl
  rw [← hold] at held
  refine LinksKept.updateLink (fun rules => ?_) (fun _ => rfl) rfl rfl kept
  have replays := rules.setReplayPoint (p := some q) fun q' h => by
    cases h
    exact held
  obtain ⟨r, hr, -⟩ := held
  exact replays.setReplayTimer (List.ne_nil_of_mem hr) _

/-- A counted replay begins, or ends the UP period of the link (R121, R124). -/
theorem linksSound_countReplay {s : State} (hs : LinksSound s) {k : Link} {q : SeqNo}
    (held : ∃ r ∈ (s.link k).hold, r.seq = q) : LinksSound (s.countReplay k q) := by
  have counted : LinksSound (s.updateLink k fun l => { l with replayCount := (s.link k).replayCount + 1 }) :=
    LinksKept.updateLink (fun rules => { rules with }) (fun _ => rfl) rfl rfl hs
  have up : (s.link k).state = .up := by
    obtain ⟨r, hr, -⟩ := held
    exact (linkRules_of_linksSound hs k).up_of_hold (List.ne_nil_of_mem hr)
  simp only [State.countReplay]
  split
  · exact linksSound_loseLink counted (by simpa using up)
  · exact linksSound_beginReplay counted (by simpa using held)

theorem linksKept_replayTimedOut (s : State) (k : Link) : LinksKept s (s.replayTimedOut k) := by
  intro hs
  unfold State.replayTimedOut
  split
  · next r rest hold => exact linksSound_countReplay hs ⟨r, by simp [hold], rfl⟩
  · exact hs

theorem linksKept_setStray (s : State) (k : Link) : LinksKept s (s.updateLink k (·.setStray)) :=
  .updateLink (fun rules => { rules with }) (fun _ => rfl) rfl rfl

theorem linksKept_takeAck (s : State) (k : Link) (q : SeqNo) : LinksKept s (s.takeAck k q) := by
  intro hs
  simp only [State.takeAck]
  split
  · split
    · exact (linksSound_release hs k _).1
    · exact hs
  · exact linksKept_setStray s k hs

theorem linksKept_takeNak (s : State) (k : Link) (q : SeqNo) : LinksKept s (s.takeNak k q) := by
  intro hs
  simp only [State.takeNak]
  split
  · split
    · next i found =>
      obtain ⟨kept, hold, -⟩ := linksSound_release hs k i
      refine linksSound_countReplay kept ?_
      obtain ⟨inside, same, -⟩ := List.findIdx?_eq_some_iff_getElem.mp found
      rw [hold]
      exact ⟨(s.link k).hold[i], List.mem_drop_iff_getElem.mpr ⟨0, by simpa using inside, by simp⟩, by simpa using same⟩
    · exact (linksSound_release hs k _).1
  · exact linksKept_setStray s k hs

/-- After a retransmission the replay goes on from a younger held record, or ends (R126). -/
theorem LinkRules.handReplayed {l : LinkSlice} (h : LinkRules l) (r : HoldRecord) (f : Frame) :
    LinkRules (l.handReplayed r f) := by
  refine (h.setTx ⟨some f, l.tx.helloWaiting⟩).setReplayPoint fun q next => ?_
  obtain ⟨younger, first, seq⟩ := Option.map_eq_some_iff.mp next
  exact ⟨younger, (List.dropWhile_suffix _).subset (List.mem_of_mem_drop (List.mem_of_mem_head? first)), seq⟩

theorem linksKept_handReplayed (s : State) (k : Link) (r : HoldRecord) (f : Frame) :
    LinksKept s (s.updateLink k (·.handReplayed r f)) :=
  .updateLink (fun rules => rules.handReplayed r f) (fun _ => rfl) rfl rfl

theorem linksKept_retransmit (s : State) (k : Link) : LinksKept s (s.retransmit k) := by
  unfold State.retransmit
  split
  · exact .refl s
  · next r may =>
    obtain ⟨q, point⟩ : ∃ q, (s.link k).replayPoint = some q := by
      simp only [LinkSlice.mayRetransmit] at may
      split at may
      · obtain ⟨q, point, -⟩ := Option.bind_eq_some_iff.mp may
        exact ⟨q, point⟩
      · cases may
    split
    · refine .setEngine (e := .reRead r.seq) (fun rules => rules.setEngine (fun down => ?_) fun t w b h => by cases h)
        rfl rfl rfl
      exact absurd (rules.up_of_replayPoint point) down
    all_goals exact linksKept_handReplayed s k r _

theorem linksKept_endReRead (s : State) (k : Link) : LinksKept s (s.endReRead k) := by
  unfold State.endReRead
  split
  · split
    · exact (linksKept_handReplayed s k _ _).trans (linksKept_freeEngine _ k)
    · exact linksKept_freeEngine s k
  · exact linksKept_freeEngine s k
  all_goals exact .refl s

end Sys2Proof.Machine

namespace Sys2Proof.Machine

open Sys2Proof.Safety

/-! ### Notices (R102, R104, R108, R109) -/

theorem linksKept_restartSilence {s : State} {k : Link} (up : (s.link k).state = .up) : LinksKept s (s.restartSilence k) :=
  .updateLink (fun rules => rules.restartSilence up _) (fun _ => rfl) rfl rfl

/-- A valid notice that its block takes, the link being UP. -/
theorem linksKept_notice (s : State) (k : Link) {f : State → State}
    (hf : ∀ s : State, (s.link k).state = .up → LinksKept s (f s)) : LinksKept s (s.notice k f) := by
  unfold State.notice
  split
  · next up => exact (linksKept_restartSilence up).trans (hf _ (by simpa [State.restartSilence] using up))
  all_goals exact .refl s

theorem linksKept_badNotice (s : State) (k : Link) : LinksKept s (s.badNotice k) := by
  have flagged : LinksKept s (s.updateLink k (·.setBadNotice)) :=
    .updateLink (fun rules => { rules with }) (fun _ => rfl) rfl rfl
  unfold State.badNotice
  split
  · exact flagged
  · exact flagged
  all_goals exact .refl s

theorem linksKept_takeHello (s : State) (k : Link) (seen : Bool) (n : BitVec 3) (capacity restart : Vector Nibble 4) :
    LinksKept s (s.takeHello k seen n capacity restart) := by
  unfold State.takeHello
  split
  · split
    · next training =>
      have heard : LinksKept s (s.updateLink k fun l => { l with partnerHeard := true }) :=
        .updateLink (fun rules => { rules with }) (fun _ => rfl) rfl rfl
      simp only []
      split
      · exact heard.trans (linksKept_enterUp (by simp [training]))
      · exact heard
    · next up =>
      exact fun hs => linksSound_loseLink (linksKept_restartSilence up hs) (by simpa [State.restartSilence] using up)
    all_goals exact .refl s
  · exact linksKept_badNotice s k

/-- The record of a position changes on a link that is UP, its presence apart (R142 to R145). -/
theorem linksKept_setPosition {s : State} {k : Link} (up : (s.link k).state = .up) {p : Position} {r : PositionRecord}
    (present : r.present = ((s.link k).position p).present) : LinksKept s (s.updateLink k (·.setPosition p r)) := by
  refine .updateLink (fun rules => { rules with idle := fun down => absurd up down }) (fun q => ?_) rfl rfl
  have same : (((s.link k).setPosition p r).position q).present = ((s.link k).position q).present := by
    rw [LinkSlice.position_setPosition]
    split
    · next here => rw [here, present]
    · rfl
  simp only [LinkSlice.serves, same]
  rfl

theorem linksKept_takeTileStatus {s : State} {k : Link} (up : (s.link k).state = .up) (p : Position) (freed : Byte)
    (restart : Nibble) (shown : Byte) : LinksKept s (s.takeTileStatus k p freed restart shown) := by
  simp only [State.takeTileStatus]
  split
  · exact linksKept_setStray s k
  · split
    · exact fun hs => linksSound_loseLink hs up
    · have returned := linksKept_setPosition up (p := p)
        (r := ((s.link k).position p).returnCredit (freed - ((s.link k).position p).lastFreed).toNat freed shown) rfl
      have flagged : ∀ u : State, LinksKept u (u.updateLink k fun l => { l with creditExcess := true }) :=
        fun u => .updateLink (fun rules => { rules with }) (fun _ => rfl) rfl rfl
      split
      · exact (returned.trans (flagged _)).trans (.of_eq rfl rfl rfl)
      · exact returned

theorem linksKept_takeReport (s : State) (k : Link) (p : Position) (tag : Byte) (capacity : Nibble) (shown : Byte)
    (restart : Nibble) (word : BitVec 32) : LinksKept s (s.takeReport k p tag capacity shown restart word) := by
  unfold State.takeReport
  split
  · exact .of_eq rfl rfl rfl
  · exact linksKept_setStray s k

/-! ### Tile commands (R42 to R44, R49) -/

/-- The record of a tile that is not ACTIVE is replaced by one in the state that R39 asks for. -/
theorem linksKept_setTile {s : State} {v : TileIdx} {r : TileRecord} (off : (s.tile v).isActive = false)
    (state : r.enabled = true → r.isActive = (s.link r.link).serves r.position) : LinksKept s (s.setTile v r) := by
  rintro ⟨links, states, names, participants⟩
  have stays : ∀ u, (s.tile u).isActive = true → (s.setTile v r).tile u = s.tile u := fun u active => by
    rw [State.tile_setTile, if_neg]
    rintro rfl
    simp [off] at active
  refine ⟨links, fun u on => ?_, fun k e he => ?_, fun u has running => ?_⟩
  · rw [State.canBeActive_eq]
    rw [State.tile_setTile] at on ⊢
    split at on
    · next same =>
      rw [if_pos same]
      exact state on
    · next other =>
      rw [if_neg other]
      exact states u on
  · obtain ⟨active, on⟩ := names k e he
    rw [stays _ active]
    exact ⟨active, on⟩
  · have active := participants u has running
    rw [stays u active]
    exact active

/-- TILE ENABLE of a DISABLED tile (R43). -/
theorem linksKept_enableTile {s : State} {v : TileIdx} (off : (s.tile v).enabled = false) :
    LinksKept s (s.setTile v { s.tile v with state := if s.canBeActive v then .active else .waiting }) := by
  refine linksKept_setTile (Bool.eq_false_iff.mpr fun active => ?_) fun _ => ?_
  · simp [TileRecord.enabled_of_isActive active] at off
  · change _ = s.canBeActive v
    cases s.canBeActive v <;> rfl

/-- A query's entry joins the queue of its tile's link (R49). -/
theorem linksKept_startQuery {s : State} {t : TileIdx} (active : (s.tile t).isActive = true)
    (room : (s.link (s.tile t).link).hasRoom = true) : LinksKept s (s.startQuery t) := fun hs =>
  linksSound_congr rfl rfl rfl
    ((EntriesJoined.enqueue (k := (s.tile t).link) (e := .query t (s.query.tag + 1)) ⟨active, rfl⟩ room).linksSound hs)

/-- The link of a tile that TILE DISABLE takes from it: its entries gone, its records orphans (R44, R81). -/
theorem LinkRules.removeTile {l : LinkSlice} (h : LinkRules l) {t : TileIdx} (free : l.dispatches t = false) :
    LinkRules ((l.removeTile t).orphanTile t) where
  idle down := by
    obtain ⟨queue, backlog, hold, replayPoint, positions, engine⟩ := h.idle down
    refine ⟨?_, ?_, ?_, replayPoint, positions, engine⟩
    · simp [LinkSlice.orphanTile, LinkSlice.removeTile, LinkSlice.refill, queue, backlog]
    · simp [LinkSlice.orphanTile, LinkSlice.removeTile, LinkSlice.refill, backlog]
    · simp [LinkSlice.orphanTile, LinkSlice.removeTile, LinkSlice.refill, hold]
  attempt := h.attempt
  hello := h.hello
  silence := h.silence
  replayTimer := by simpa [LinkSlice.orphanTile, LinkSlice.removeTile, LinkSlice.refill] using h.replayTimer
  queue := .refill (Nat.le_trans (List.length_filter_le ..) h.queue.bound) fun e he => h.queue.shows e (List.mem_of_mem_filter he)
  holdBound := by simpa [LinkSlice.orphanTile, LinkSlice.removeTile, LinkSlice.refill] using h.holdBound
  consecutive := holdConsecutive_map h.consecutive (f := fun r => if r.tile == t then { r with orphan := true } else r)
    (fun r => by split <;> rfl) rfl rfl
  replayPoint q point := by
    obtain ⟨r, hr, seq⟩ := h.replayPoint q point
    refine ⟨_, List.mem_map_of_mem hr, ?_⟩
    split <;> exact seq
  dispatch u w b engine := by
    obtain ⟨inQueue, room⟩ := h.dispatch u w b engine
    have other : u ≠ t := by
      have engine' : l.engine = .dispatch u w b := engine
      simpa [LinkSlice.dispatches, engine'] using free
    refine ⟨List.mem_append_left _ (List.mem_filter.mpr ⟨inQueue, by simpa [Entry.tile] using other⟩), ?_⟩
    simpa [LinkSlice.orphanTile, LinkSlice.removeTile, LinkSlice.refill] using room

theorem LinkSlice.entries_removeTile (l : LinkSlice) (t : TileIdx) :
    ((l.removeTile t).orphanTile t).queue ++ ((l.removeTile t).orphanTile t).backlog =
      (l.queue ++ l.backlog).filter fun e => e.tile != t := by
  rw [List.filter_append]
  exact LinkSlice.entries_refill _

section DisableActive

variable {s : State} {t : TileIdx}

/-- What the capture engine of a tile's link is left doing by TILE DISABLE: a dispatch of its entry is abandoned (R44, R93). -/
def State.engineWithout (s : State) (t : TileIdx) : CaptureEngine :=
  let l := s.link (s.tile t).link
  if l.dispatches t then stoppedEngine (s.holds (.capture (s.tile t).link)) l.engine else l.engine

/-- The Store Arbiter after TILE DISABLE: the request of an abandoned dispatch that waits is withdrawn (R93). -/
def State.arbiterWithout (s : State) (t : TileIdx) : Arbiter :=
  if (s.link (s.tile t).link).dispatches t && !s.holds (.capture (s.tile t).link) then s.arbiter.withdraw (s.tile t).link
  else s.arbiter

/-- The state of TILE DISABLE of an ACTIVE tile before the tile's leaving is told (R44, R81). -/
def State.withoutTile (s : State) (t : TileIdx) : State :=
  let r := s.tile t
  ({ s.setTile t { r with state := .disabled } with arbiter := s.arbiterWithout t } : State).setLink r.link
    ((LinkSlice.removeTile { s.link r.link with engine := s.engineWithout t } t).orphanTile t)

theorem State.updateLink_setLink (s : State) (k : Link) (l : LinkSlice) (f : LinkSlice → LinkSlice) :
    (s.setLink k l).updateLink k f = s.setLink k (f l) := by
  simp [State.updateLink, State.setLink, State.link]

/-- A link that dispatches a tile's entry has the dispatch in its capture engine. -/
theorem LinkSlice.engine_of_dispatches {l : LinkSlice} (h : l.dispatches t = true) : ∃ w b, l.engine = .dispatch t w b := by
  unfold LinkSlice.dispatches at h
  split at h
  · next u w b engine => exact ⟨w, b, by rw [engine, beq_iff_eq.mp h]⟩
  all_goals cases h

/-- The abandoning of the dispatch of a tile's entry, if there is one, as one change (R93). -/
theorem State.abandonDispatch_of_tile (s : State) (t : TileIdx) :
    (if (s.link (s.tile t).link).dispatches t then s.abandonDispatch (s.tile t).link else s) =
      ({ s with arbiter := s.arbiterWithout t } : State).setLink (s.tile t).link
        { s.link (s.tile t).link with engine := s.engineWithout t } := by
  by_cases dispatches : (s.link (s.tile t).link).dispatches t = true
  · obtain ⟨w, b, engine⟩ := LinkSlice.engine_of_dispatches dispatches
    rw [if_pos dispatches]
    cases holds : s.holds (.capture (s.tile t).link) <;>
      simp [State.abandonDispatch, State.engineWithout, State.arbiterWithout, dispatches, engine, holds, stoppedEngine,
        State.updateLink, State.setLink]
  · rw [if_neg dispatches]
    simp only [State.engineWithout, State.arbiterWithout, dispatches, Bool.false_and, Bool.false_eq_true, if_false]
    exact (s.setLink_self _).symm

theorem State.disableTile_active (active : (s.tile t).isActive = true) :
    s.disableTile t = (s.withoutTile t).leaveActive [t] ((s.link (s.tile t).link).entriesOf t) := by
  have tile : (s.setTile t { s.tile t with state := .disabled }).tile t = { s.tile t with state := .disabled } := by
    rw [State.tile_setTile, if_pos rfl]
  have engine : (s.setTile t { s.tile t with state := .disabled }).engineWithout t = s.engineWithout t := by
    simp only [State.engineWithout, tile]
    rfl
  have arbiter : (s.setTile t { s.tile t with state := .disabled }).arbiterWithout t = s.arbiterWithout t := by
    simp only [State.arbiterWithout, tile]
    rfl
  have abandoned := (s.setTile t { s.tile t with state := .disabled }).abandonDispatch_of_tile t
  rw [engine, arbiter, tile] at abandoned
  rw [State.disableTile, if_pos active, abandoned]
  exact congrArg (State.leaveActive · [t] ((s.link (s.tile t).link).entriesOf t)) (State.updateLink_setLink ..)

theorem State.tile_withoutTile (s : State) (t u : TileIdx) : (s.withoutTile t).tile u =
    if u = t then { s.tile t with state := .disabled } else s.tile u := State.tile_setTile ..

theorem State.link_withoutTile (s : State) (t : TileIdx) (j : Link) : (s.withoutTile t).link j =
    if j = (s.tile t).link then
      (LinkSlice.removeTile { s.link (s.tile t).link with engine := s.engineWithout t } t).orphanTile t
    else s.link j := State.link_setLink ..

/-- What an ACTIVE tile's leaving does at TILE DISABLE (R41, R44). -/
theorem departed_disableTile (active : (s.tile t).isActive = true) : Departed s (s.disableTile t) s.attention [t]
    ((s.link (s.tile t).link).entriesOf t) := by
  rw [State.disableTile_active active]
  refine departed_of_same (departed_leaveActive (s.withoutTile t) [t] _) rfl rfl rfl fun u => ?_
  rw [State.tile_withoutTile]
  split
  · next same => exact ⟨.disabled, by rw [same]⟩
  · exact ⟨(s.tile u).state, rfl⟩

theorem dispatches_engineWithout (s : State) (t : TileIdx) :
    LinkSlice.dispatches { s.link (s.tile t).link with engine := s.engineWithout t } t = false := by
  simp only [State.engineWithout]
  split
  · rcases CaptureEngine.workless_stoppedEngine (s.holds (.capture (s.tile t).link)) (s.link (s.tile t).link).engine
      with e | e | e
    all_goals simp [LinkSlice.dispatches, e]
  · next free => simpa [LinkSlice.dispatches] using free

theorem linkRules_withoutTile (hs : LinksSound s) (j : Link) : LinkRules ((s.withoutTile t).link j) := by
  rw [State.link_withoutTile]
  split
  · have rules := linkRules_of_linksSound hs (s.tile t).link
    refine (rules.stop ?_).removeTile (dispatches_engineWithout s t)
    simp only [State.engineWithout]
    split
    · exact .inr (CaptureEngine.workless_stoppedEngine ..)
    · exact .inl rfl
  · exact linkRules_of_linksSound hs j

theorem serves_withoutTile (j : Link) (p : Position) : ((s.withoutTile t).link j).serves p = (s.link j).serves p := by
  rw [State.link_withoutTile]
  split
  · next same =>
    rw [same]
    rfl
  · rfl

/-- What TILE DISABLE leaves in queues and backlogs was there, and names other tiles (R44). -/
theorem mem_of_mem_withoutTile (hs : LinksSound s) {j : Link} {e : Entry}
    (he : e ∈ ((s.withoutTile t).link j).queue ++ ((s.withoutTile t).link j).backlog) :
    e ∈ (s.link j).queue ++ (s.link j).backlog ∧ e.tile ≠ t := by
  rw [State.link_withoutTile] at he
  split at he
  · next same =>
    rw [LinkSlice.entries_removeTile, List.mem_filter, bne_iff_ne] at he
    rw [same]
    exact he
  · next other =>
    refine ⟨he, fun named => other ?_⟩
    obtain ⟨-, on⟩ := hs.2.2.1 j e he
    rw [← on, named]

theorem linksKept_disableTile (s : State) (t : TileIdx) : LinksKept s (s.disableTile t) := by
  by_cases active : (s.tile t).isActive = true
  · intro hs
    have departed := departed_disableTile active
    rw [State.disableTile_active active] at departed ⊢
    obtain ⟨x, p, q, a, n, left⟩ := (s.withoutTile t).leaveActive_frame [t] ((s.link (s.tile t).link).entriesOf t)
    rw [left] at departed ⊢
    have link : ∀ j, ({ s.withoutTile t with
        cells := x, present := p, query := q, attention := a, freeCount := n } : State).link j = (s.withoutTile t).link j :=
      fun _ => rfl
    have tile : ∀ u, ({ s.withoutTile t with
        cells := x, present := p, query := q, attention := a, freeCount := n } : State).tile u =
          if u = t then { s.tile t with state := .disabled } else s.tile u := s.tile_withoutTile t
    generalize ({ s.withoutTile t with
      cells := x, present := p, query := q, attention := a, freeCount := n } : State) = v at departed link tile
    refine ⟨fun j => ?_, fun u on => ?_, fun j e he => ?_, (participantsActive_iff v).mpr fun u needed => ?_⟩
    · rw [link]
      exact (linkSound_iff _).mpr (linkRules_withoutTile hs j)
    · by_cases same : u = t
      · rw [tile, if_pos same] at on
        cases on
      · rw [State.canBeActive_eq, link, serves_withoutTile, tile, if_neg same]
        rw [tile, if_neg same] at on
        exact hs.2.1 u on
    · rw [link] at he
      obtain ⟨before, other⟩ := mem_of_mem_withoutTile hs he
      rw [tile, if_neg other]
      exact hs.2.2.1 j e before
    · obtain ⟨before, stays⟩ := needs_of_departed departed needed
      rw [tile, if_neg (by simpa using stays)]
      exact (participantsActive_iff s).mp hs.2.2.2 u before
  · rw [State.disableTile, if_neg active]
    exact linksKept_setTile (by simpa using active) fun on => by cases on

end DisableActive

end Sys2Proof.Machine

namespace Sys2Proof.Machine

open Sys2Proof.Safety

/-! ### SOFT RESET (R47, R137, R163, R184) -/

/-- A link that SOFT RESET has cleared: it has no work, and if it was not OFF an attempt begins (R137). -/
theorem LinkRules.softReset {l : LinkSlice} (h : LinkRules l) {e : CaptureEngine} (stopped : e.workless) (time : Nat) :
    LinkRules (LinkSlice.softReset { l with engine := e } time) ∧
      (LinkSlice.softReset { l with engine := e } time).state ≠ .up := by
  have attempt := h.attempt
  have hello := h.hello
  have cleared : ∀ state count next, LinkIdle { LinkSlice.cutOff { l.allAbsent.clearFlags with
      state := state, queue := [], backlog := [], hold := [], replayPoint := none, replayCount := 0, replayTimer := none
      silenceTimer := none, receiving := none, engine := e } with attemptCount := count, nextSeq := next } :=
    fun _ _ _ => ⟨rfl, rfl, rfl, rfl, positionAbsent_allAbsent l, stopped⟩
  unfold LinkSlice.softReset
  cases state : l.state with
  | off =>
    rw [state] at attempt hello
    simp only [LinkSlice.allAbsent, LinkSlice.clearFlags]
    exact ⟨.of_no_work rfl rfl rfl rfl rfl stopped (fun _ => positionAbsent_allAbsent l) attempt hello rfl, by simp⟩
  | training | up | fault =>
    simp only [LinkSlice.allAbsent, LinkSlice.clearFlags]
    exact ⟨linkRules_beginAttempt (cleared _ _ _) rfl rfl time, by rw [LinkSlice.state_beginAttempt]; simp⟩

/-- The links one after the other (R137). -/
theorem linkRules_softResetLinks {s : State} (ks : List Link) (rules : ∀ j, LinkRules (s.link j)) :
    ∀ j, LinkRules ((ks.foldl State.softResetLink s).link j) ∧
      (j ∈ ks ∨ (s.link j).state ≠ .up → ((ks.foldl State.softResetLink s).link j).state ≠ .up) := by
  induction ks generalizing s with
  | nil => exact fun j => ⟨rules j, fun down => by simpa using down⟩
  | cons k ks ih =>
    obtain ⟨w, stopped, -⟩ := s.stopEngine_eq k
    have link : ∀ j, (s.softResetLink k).link j = if j = k then LinkSlice.softReset { s.link k with
        engine := stoppedEngine (s.holds (.capture k)) (s.link k).engine } s.timers.attemptTime else s.link j := fun j => by
      rw [State.softResetLink, stopped, State.link_updateLink]
      split
      · simp [State.link]
      · next other =>
        change (s.links.set k _)[j] = _
        rw [Fin.getElem_fin, getElem_set_link, if_neg other]
        rfl
    have reset := (rules k).softReset (CaptureEngine.workless_stoppedEngine (s.holds (.capture k)) (s.link k).engine)
      s.timers.attemptTime
    have next : ∀ j, LinkRules ((s.softResetLink k).link j) ∧
        (j = k ∨ (s.link j).state ≠ .up → ((s.softResetLink k).link j).state ≠ .up) := fun j => by
      rw [link]
      split
      · exact ⟨reset.1, fun _ => reset.2⟩
      · next other => exact ⟨rules j, fun h => h.resolve_left other⟩
    intro j
    obtain ⟨kept, down⟩ := ih (fun j => (next j).1) j
    refine ⟨kept, fun h => down ?_⟩
    rcases h with h | h
    · rcases List.mem_cons.mp h with first | later
      · exact .inr ((next j).2 (.inl first))
      · exact .inl later
    · exact .inr ((next j).2 (.inr h))

theorem linksKept_softReset (s : State) : LinksKept s s.softReset := by
  intro hs
  have links := linkRules_softResetLinks (s := s) (List.finRange 4) (linkRules_of_linksSound hs)
  unfold State.softReset
  generalize (List.finRange 4).foldl State.softResetLink s = u at links
  have down : ∀ j, (u.link j).state ≠ .up := fun j => (links j).2 (.inl (List.mem_finRange j))
  have off : ∀ r : TileRecord, r.softReset.isActive = false := fun r => by
    cases state : r.state <;> simp [TileRecord.softReset, TileRecord.isActive, state]
  refine ⟨fun j => (linkSound_iff _).mpr (links j).1, fun t _ => ?_, fun j e he => ?_,
    (participantsActive_iff _).mpr fun t needed => ?_⟩
  · rw [State.canBeActive_eq]
    refine Eq.trans ?_ (LinkSlice.serves_of_down (down _) _).symm
    simp [State.tile, off]
  · exact absurd ((links j).1.entries_nil (down j) ▸ he) List.not_mem_nil
  · rw [PresentRecord.needs_idle] at needed
    · cases needed
    · cases state : u.present.state <;> simp [PresentRecord.softReset, state]

end Sys2Proof.Machine

/-! ## Every command keeps links, tiles, queues and participants in agreement (R39, R77, R80, R159, R160) -/

namespace Sys2Proof.Machine

open Sys2Proof.Safety

/-! ### Host accesses, the window side and the sweep -/

section HostSide

variable (s : State)

theorem linksKept_hostAccess : LinksKept s s.hostAccess := .of_eq s.links_hostAccess s.tiles_hostAccess s.present_hostAccess

/-- What is held for the window side is carried out beside the links. -/
theorem linksKept_runHeld (held : List HeldOp) : LinksKept s (State.runHeld held s) := by
  induction held generalizing s with
  | nil => exact .of_eq rfl rfl rfl
  | cons op rest ih =>
    cases op with
    | pixelRead =>
      simp only [State.runHeld, State.readLatch_eq]
      split
      · exact .after (ih _) rfl rfl rfl
      · exact .of_eq rfl rfl rfl
    | setMode o m => exact .after (ih _) rfl rfl rfl
    | pixelWrite _ => exact .of_eq rfl rfl rfl
    | setWindow _ => exact .of_eq rfl rfl rfl
    | setPointer _ _ => exact .of_eq rfl rfl rfl
    | fillStart => exact .of_eq rfl rfl rfl

theorem linksKept_takeWindowOp (op : HeldOp) : LinksKept s (s.takeWindowOp op) := by
  simp only [State.takeWindowOp]
  split
  · exact linksKept_runHeld s _
  · exact .of_eq rfl rfl rfl

theorem linksKept_writePixelData (v : Word) : LinksKept s (s.writePixelData v) := by
  unfold State.writePixelData
  split
  · exact .of_eq rfl rfl rfl
  · exact .after (linksKept_takeWindowOp _ _) rfl rfl rfl

theorem linksKept_readPixelData : LinksKept s s.readPixelData := by
  unfold State.readPixelData
  split
  · exact .of_eq rfl rfl rfl
  · exact .after (linksKept_takeWindowOp _ _) rfl rfl rfl

theorem linksKept_endLoad (cause : LoadCause) : LinksKept s (s.endLoad cause) := by
  have loaded : LinksKept s (State.loadEnded
      (State.releaseGrant { s with window.latch := Memory.pixel s.store s.window.x s.window.y }) cause) := by
    cases cause <;> exact .of_eq rfl rfl rfl
  exact loaded.trans (linksKept_runHeld _ _)

theorem linksKept_sweepPass : LinksKept s s.sweepPass := by
  unfold State.sweepPass
  split
  · next w rest _ =>
    have swept : LinksKept s (s.sweepBand w) := .of_eq rfl rfl rfl
    simp only []
    generalize s.sweepBand w = u at swept
    split <;> exact swept.trans (.of_eq rfl rfl rfl)
  · exact .refl s

theorem linksKept_mapCommand (m : BandMap) : LinksKept s (s.mapCommand m) := by
  unfold State.mapCommand
  split <;> exact .of_eq rfl rfl rfl

end HostSide

/-! ### Events, accesses and command writes -/

section Outcomes

variable {s t : State}

theorem linksKept_event {f : State → State} (h : s.event f = .next t) (hf : ∀ s, LinksKept s (f s)) : LinksKept s t := by
  obtain rfl : (if s.nReset then f s else s) = t := by simpa [State.event] using h
  exact .when fun _ => hf s

theorem linksKept_access {f : State → State} (h : s.access f = .next t) (hf : ∀ s, LinksKept s (f s)) : LinksKept s t :=
  linksKept_event h fun s => (linksKept_hostAccess s).trans (hf _)

theorem linksKept_commandWrite {code : Byte} {n : Nat} {body : List Word → State → State}
    (h : s.commandWrite code n body = .next t) (hb : ∀ ps s, LinksKept s (body ps s)) : LinksKept s t := by
  refine linksKept_access h fun s => ?_
  rcases s.command_cases code n body with ⟨-, e⟩ | ⟨-, r, -, e⟩ | ⟨-, -, -, -, e⟩
  · rw [e]; exact .of_eq rfl rfl rfl
  · rw [e]; exact .of_eq rfl rfl rfl
  · rw [e]; exact (hb _ _).after rfl rfl rfl

theorem linksKept_linkCommand {code : Byte} {body : Link → State → State} (h : s.linkCommand code body = .next t)
    (hb : ∀ k s, LinksKept s (body k s)) : LinksKept s t :=
  linksKept_commandWrite h fun _ s => .refuse_or fun _ => hb _ s

/-! ### Commands with a case split of their own -/

theorem linksSound_hardReset (s : State) : LinksSound s.hardReset :=
  linksSound_congr (s := State.reset) rfl rfl rfl linksSound_reset

theorem linksKept_execHardResetEnd (h : execHardResetEnd s = .next t) : LinksKept s t := by
  simp only [execHardResetEnd, Host.Outcome.next.injEq] at h
  subst h
  split
  · exact .refl s
  · exact .of_eq rfl rfl rfl

theorem linksKept_execWindowWriteLanding (h : execWindowWriteLanding s = .next t) : LinksKept s t := by
  refine linksKept_event h fun s => ?_
  split
  · exact .when fun _ => by rw [State.land_eq]; exact .of_eq rfl rfl rfl
  all_goals exact .refl s

theorem linksKept_execLatchLoad (h : execLatchLoad s = .next t) : LinksKept s t := by
  refine linksKept_event h fun s => ?_
  split
  · exact .when fun _ => linksKept_endLoad s _
  all_goals exact .refl s

theorem linksKept_execAttemptTimeout {k : Link} (h : execAttemptTimeout k s = .next t) : LinksKept s t :=
  linksKept_event h fun _ => .when fun runs hs =>
    linksKept_attemptTimedOut ((linkRules_of_linksSound hs k).down_of_attemptTimer runs) hs

theorem linksKept_execSilenceTimeout {k : Link} (h : execSilenceTimeout k s = .next t) : LinksKept s t :=
  linksKept_event h fun _ => .when fun runs hs =>
    linksSound_loseLink hs ((linkRules_of_linksSound hs k).up_of_silenceTimer runs)

theorem linksKept_execPresentDeadline (h : execPresentDeadline s = .next t) : LinksKept s t := by
  refine linksKept_event h fun s => .when fun _ => ?_
  split
  · exact linksKept_endPresent s _ _
  · exact linksKept_endPresent s _ _
  · exact .refl s

theorem linksKept_execResultRead (h : execResultRead s = .next t) : LinksKept s t := by
  refine linksKept_access h fun s => ?_
  split <;> exact .of_eq rfl rfl rfl

theorem linksKept_execUnknownCommand {code : Word} (h : execUnknownCommand code s = .next t) : LinksKept s t := by
  unfold execUnknownCommand at h
  split at h
  · cases h
  · refine linksKept_access h fun s => ?_
    split <;> exact .of_eq rfl rfl rfl

theorem linksKept_execTileEnable (h : execTileEnable s = .next t) : LinksKept s t :=
  linksKept_commandWrite h fun _ _ => .refuse_or fun _ => .refuse_or fun off => .refuse_or fun _ => .refuse_or fun _ =>
    (linksKept_enableTile (by simpa using off)).complete _

theorem linksKept_execTileSet (h : execTileSet s = .next t) : LinksKept s t := by
  refine linksKept_commandWrite h fun _ _ => .refuse_or fun _ => .refuse_or fun off => ?_
  refine (linksKept_setTile (Bool.eq_false_iff.mpr fun active => ?_) fun on => by cases on).complete _
  exact off (TileRecord.enabled_of_isActive active)

theorem linksKept_execTileDisable (h : execTileDisable s = .next t) : LinksKept s t := by
  refine linksKept_commandWrite h fun _ _ => .refuse_or fun _ => ?_
  split
  · exact (linksKept_disableTile _ _).complete _
  · exact .refuse _ _

theorem linksKept_execQueryTile (h : execQueryTile s = .next t) : LinksKept s t :=
  linksKept_commandWrite h fun _ _ => .refuse_or fun _ => .refuse_or fun active => .refuse_or fun _ => .refuse_or fun room =>
    (linksKept_startQuery (by simpa using active) (by simpa using room)).complete _

theorem linksKept_execLinkEnable (h : execLinkEnable s = .next t) : LinksKept s t := by
  refine linksKept_linkCommand h fun k s => ?_
  split
  · next off => exact (linksKept_freshAttempt (by simp [off])).complete _
  all_goals exact .refuse s _

theorem linksKept_execLinkDisable (h : execLinkDisable s = .next t) : LinksKept s t := by
  refine linksKept_linkCommand h fun k s => ?_
  split
  · exact (LinksKept.refl s).complete _
  · next training => exact (linksKept_switchOff (by simp [training])).complete _
  · next faulty => exact (linksKept_switchOff (by simp [faulty])).complete _
  · next up => exact LinksKept.complete (fun hs => linksSound_loseLink hs up) _

theorem linksKept_execLinkReset (h : execLinkReset s = .next t) : LinksKept s t := by
  refine linksKept_linkCommand h fun k s => ?_
  split
  · exact .refuse s _
  · next training => exact (linksKept_freshAttempt (by simp [training])).complete _
  · next faulty => exact (linksKept_freshAttempt (by simp [faulty])).complete _
  · next up => exact LinksKept.complete (fun hs => linksSound_loseLink hs up) _

theorem linksKept_execPresent (h : execPresent s = .next t) : LinksKept s t := by
  refine linksKept_commandWrite h fun _ s => ?_
  split
  · exact .refuse s _
  · exact .refuse s _
  · split
    · exact (linksKept_cut s).complete _
    · exact .refuse s _

theorem linksKept_execCancelPresent (h : execCancelPresent s = .next t) : LinksKept s t := by
  refine linksKept_commandWrite h fun _ s => ?_
  split
  · exact (linksKept_endPresent s _ _).complete _
  · exact .refuse s _
  · exact .refuse s _

theorem linksKept_execSoftReset (h : execSoftReset s = .next t) : LinksKept s t := by
  refine linksKept_access h fun s => ?_
  split
  · exact .of_eq rfl rfl rfl
  · exact ((linksKept_softReset _).complete _).after rfl rfl rfl

/-! #### Engine steps -/

theorem linksKept_execStartUpClearRow (h : execStartUpClearRow s = .next t) : LinksKept s t :=
  linksKept_event h fun _ => .when fun _ => by rw [State.endClearRow_eq]; exact .of_eq rfl rfl rfl

theorem linksKept_execFillRow (h : execFillRow s = .next t) : LinksKept s t :=
  linksKept_event h fun _ => .when fun _ => by rw [State.endFillRow_eq]; exact .of_eq rfl rfl rfl

theorem linksKept_execRemapSweepPass (h : execRemapSweepPass s = .next t) : LinksKept s t :=
  linksKept_event h linksKept_sweepPass

theorem linksKept_execWalkerExamination (h : execWalkerExamination s = .next t) : LinksKept s t :=
  linksKept_event h fun s => .when fun _ => linksKept_examine s

theorem linksKept_execDispatchSelection {k : Link} (h : execDispatchSelection k s = .next t) : LinksKept s t :=
  linksKept_event h fun s => linksKept_select s k

theorem linksKept_execCaptureGrantEnd {k : Link} (h : execCaptureGrantEnd k s = .next t) : LinksKept s t :=
  linksKept_event h fun s => .when fun _ => linksKept_endCapture s k

theorem linksKept_execTransmissionEnd {k : Link} (h : execTransmissionEnd k s = .next t) : LinksKept s t :=
  linksKept_event h fun _ => .updateTx LinkSlice.endTransmission_eq

theorem linksKept_execReplayRetransmission {k : Link} (h : execReplayRetransmission k s = .next t) : LinksKept s t :=
  linksKept_event h fun s => linksKept_retransmit s k

theorem linksKept_execReReadGrantEnd {k : Link} (h : execReReadGrantEnd k s = .next t) : LinksKept s t :=
  linksKept_event h fun s => .when fun _ => linksKept_endReRead s k

/-! #### Expiries and notices -/

theorem linksKept_execHelloInterval {k : Link} (h : execHelloInterval k s = .next t) : LinksKept s t :=
  linksKept_event h fun _ => .when fun _ => .updateTx LinkSlice.handHello_eq

theorem linksKept_execReplayTimeout {k : Link} (h : execReplayTimeout k s = .next t) : LinksKept s t :=
  linksKept_event h fun s => .when fun _ => linksKept_replayTimedOut s k

theorem linksKept_execQueryTimeout (h : execQueryTimeout s = .next t) : LinksKept s t :=
  linksKept_event h fun _ => .when fun _ => .of_eq rfl rfl rfl

theorem linksKept_execHelloNotice {k : Link} {seen : Bool} {n : BitVec 3} {capacity restart : Vector Nibble 4}
    (h : execHelloNotice k seen n capacity restart s = .next t) : LinksKept s t :=
  linksKept_event h fun s => linksKept_takeHello s k seen n capacity restart

theorem linksKept_execAckNotice {k : Link} {q : SeqNo} (h : execAckNotice k q s = .next t) : LinksKept s t :=
  linksKept_event h fun s => linksKept_notice s k fun s _ => linksKept_takeAck s k q

theorem linksKept_execNakNotice {k : Link} {q : SeqNo} (h : execNakNotice k q s = .next t) : LinksKept s t :=
  linksKept_event h fun s => linksKept_notice s k fun s _ => linksKept_takeNak s k q

theorem linksKept_execTileStatusNotice {k : Link} {p : Position} {freed : Byte} {restart : Nibble} {shown : Byte}
    (h : execTileStatusNotice k p freed restart shown s = .next t) : LinksKept s t :=
  linksKept_event h fun s => linksKept_notice s k fun _ up => linksKept_takeTileStatus up p freed restart shown

theorem linksKept_execReportNotice {k : Link} {p : Position} {tag : Byte} {capacity : Nibble} {shown : Byte}
    {restart : Nibble} {word : BitVec 32} (h : execReportNotice k p tag capacity shown restart word s = .next t) :
    LinksKept s t :=
  linksKept_event h fun s => linksKept_notice s k fun s _ =>
    linksKept_takeReport s k p tag capacity shown restart word

theorem linksKept_execIdleNotice {k : Link} (h : execIdleNotice k s = .next t) : LinksKept s t :=
  linksKept_event h fun s => linksKept_notice s k fun s _ => .refl s

theorem linksKept_execInvalidNotice {k : Link} (h : execInvalidNotice k s = .next t) : LinksKept s t :=
  linksKept_event h fun s => linksKept_badNotice s k

/-! #### Host accesses -/

theorem linksKept_execPixelWrite {v : Word} (h : execPixelWrite v s = .next t) : LinksKept s t :=
  linksKept_access h fun s => linksKept_writePixelData s v

theorem linksKept_execPixelRead (h : execPixelRead s = .next t) : LinksKept s t :=
  linksKept_access h linksKept_readPixelData

theorem linksKept_execParameterWrite {v : Word} (h : execParameterWrite v s = .next t) : LinksKept s t :=
  linksKept_access h fun _ => .of_eq rfl rfl rfl

theorem linksKept_execCommandStatusRead (h : execCommandStatusRead s = .next t) : LinksKept s t :=
  linksKept_access h fun _ => .of_eq rfl rfl rfl

theorem linksKept_execAttentionRead (h : execAttentionRead s = .next t) : LinksKept s t :=
  linksKept_access h fun _ => .of_eq rfl rfl rfl

theorem linksKept_execWriteMaskWrite {v : Word} (h : execWriteMaskWrite v s = .next t) : LinksKept s t :=
  linksKept_access h fun _ => .of_eq rfl rfl rfl

theorem linksKept_execInterruptEnableWrite {v : Word} (h : execInterruptEnableWrite v s = .next t) : LinksKept s t :=
  linksKept_access h fun _ => .of_eq rfl rfl rfl

theorem linksKept_execRegisterWrite {location : IgnoredLocation} {v : Word}
    (h : execRegisterWrite location v s = .next t) : LinksKept s t :=
  linksKept_access (f := id) h .refl

/-! #### Commands beside the links -/

theorem linksKept_execConfigureWall (h : execConfigureWall s = .next t) : LinksKept s t :=
  linksKept_commandWrite h fun _ _ => .refuse_or fun _ => .refuse_or fun _ => .of_eq rfl rfl rfl

theorem linksKept_execSetWindow (h : execSetWindow s = .next t) : LinksKept s t :=
  linksKept_commandWrite h fun _ s => .refuse_or fun _ => linksKept_takeWindowOp s _

theorem linksKept_execSetPointer (h : execSetPointer s = .next t) : LinksKept s t :=
  linksKept_commandWrite h fun _ s => .refuse_or fun _ => linksKept_takeWindowOp s _

theorem linksKept_execSetMode (h : execSetMode s = .next t) : LinksKept s t :=
  linksKept_commandWrite h fun _ s => .refuse_or fun _ => linksKept_takeWindowOp s _

theorem linksKept_execFill (h : execFill s = .next t) : LinksKept s t :=
  linksKept_commandWrite h fun _ _ => .refuse_or fun _ => .after (linksKept_takeWindowOp _ _) rfl rfl rfl

theorem linksKept_execMapSet (h : execMapSet s = .next t) : LinksKept s t :=
  linksKept_commandWrite h fun _ s => .refuse_or fun _ => linksKept_mapCommand s _

theorem linksKept_execMapRead (h : execMapRead s = .next t) : LinksKept s t :=
  linksKept_commandWrite h fun _ s => .refuse_or fun _ => (LinksKept.refl s).complete _

theorem linksKept_execSetRollRegion (h : execSetRollRegion s = .next t) : LinksKept s t :=
  linksKept_commandWrite h fun _ s => .refuse_or fun _ => linksKept_mapCommand s _

theorem linksKept_execRoll (h : execRoll s = .next t) : LinksKept s t :=
  linksKept_commandWrite h fun _ s => .refuse_or fun _ => .refuse_or fun _ => linksKept_mapCommand s _

theorem linksKept_execTileRead (h : execTileRead s = .next t) : LinksKept s t :=
  linksKept_commandWrite h fun _ s => .refuse_or fun _ => (LinksKept.refl s).complete _

theorem linksKept_execQueryRead (h : execQueryRead s = .next t) : LinksKept s t :=
  linksKept_commandWrite h fun _ s => (LinksKept.refl s).complete _

theorem linksKept_execCellRead (h : execCellRead s = .next t) : LinksKept s t :=
  linksKept_commandWrite h fun _ s => .refuse_or fun _ => (LinksKept.refl s).complete _

theorem linksKept_execSetWalker (h : execSetWalker s = .next t) : LinksKept s t :=
  linksKept_commandWrite h fun _ _ => .refuse_or fun _ => .of_eq rfl rfl rfl

theorem linksKept_execPresentRead (h : execPresentRead s = .next t) : LinksKept s t :=
  linksKept_commandWrite h fun _ s => (LinksKept.refl s).complete _

theorem linksKept_execSetTimer (h : execSetTimer s = .next t) : LinksKept s t :=
  linksKept_commandWrite h fun _ _ => .refuse_or fun _ => .refuse_or fun _ => .of_eq rfl rfl rfl

theorem linksKept_execLinkClearFlags (h : execLinkClearFlags s = .next t) : LinksKept s t :=
  linksKept_linkCommand h fun _ _ =>
    (LinksKept.updateLink (fun rules => { rules with }) (fun _ => rfl) rfl rfl).complete _

end Outcomes

/-! ### Every command -/

theorem exec_linksKept {c : Instr} {s t : State} (h : exec c s = .next t) : LinksKept s t := by
  cases c with
  | hardReset => cases h; exact fun _ => linksSound_hardReset s
  | hardResetEnd => exact linksKept_execHardResetEnd h
  | startUpClearRow => exact linksKept_execStartUpClearRow h
  | pixelWrite _ => exact linksKept_execPixelWrite h
  | pixelRead => exact linksKept_execPixelRead h
  | windowWriteLanding => exact linksKept_execWindowWriteLanding h
  | latchLoad => exact linksKept_execLatchLoad h
  | fillRow => exact linksKept_execFillRow h
  | remapSweepPass => exact linksKept_execRemapSweepPass h
  | walkerExamination => exact linksKept_execWalkerExamination h
  | dispatchSelection _ => exact linksKept_execDispatchSelection h
  | captureGrantEnd _ => exact linksKept_execCaptureGrantEnd h
  | transmissionEnd _ => exact linksKept_execTransmissionEnd h
  | helloInterval _ => exact linksKept_execHelloInterval h
  | attemptTimeout _ => exact linksKept_execAttemptTimeout h
  | helloNotice _ _ _ _ _ => exact linksKept_execHelloNotice h
  | ackNotice _ _ => exact linksKept_execAckNotice h
  | nakNotice _ _ => exact linksKept_execNakNotice h
  | tileStatusNotice _ _ _ _ _ => exact linksKept_execTileStatusNotice h
  | reportNotice _ _ _ _ _ _ _ => exact linksKept_execReportNotice h
  | idleNotice _ => exact linksKept_execIdleNotice h
  | invalidNotice _ => exact linksKept_execInvalidNotice h
  | replayTimeout _ => exact linksKept_execReplayTimeout h
  | replayRetransmission _ => exact linksKept_execReplayRetransmission h
  | reReadGrantEnd _ => exact linksKept_execReReadGrantEnd h
  | silenceTimeout _ => exact linksKept_execSilenceTimeout h
  | queryTimeout => exact linksKept_execQueryTimeout h
  | presentDeadline => exact linksKept_execPresentDeadline h
  | parameterWrite _ => exact linksKept_execParameterWrite h
  | resultRead => exact linksKept_execResultRead h
  | commandStatusRead => exact linksKept_execCommandStatusRead h
  | attentionRead => exact linksKept_execAttentionRead h
  | writeMaskWrite _ => exact linksKept_execWriteMaskWrite h
  | interruptEnableWrite _ => exact linksKept_execInterruptEnableWrite h
  | registerWrite location v => exact linksKept_execRegisterWrite (location := location) (v := v) h
  | unknownCommand _ => exact linksKept_execUnknownCommand h
  | configureWall => exact linksKept_execConfigureWall h
  | setWindow => exact linksKept_execSetWindow h
  | setPointer => exact linksKept_execSetPointer h
  | setMode => exact linksKept_execSetMode h
  | fill => exact linksKept_execFill h
  | mapSet => exact linksKept_execMapSet h
  | mapRead => exact linksKept_execMapRead h
  | setRollRegion => exact linksKept_execSetRollRegion h
  | roll => exact linksKept_execRoll h
  | tileSet => exact linksKept_execTileSet h
  | tileEnable => exact linksKept_execTileEnable h
  | tileDisable => exact linksKept_execTileDisable h
  | tileRead => exact linksKept_execTileRead h
  | queryTile => exact linksKept_execQueryTile h
  | queryRead => exact linksKept_execQueryRead h
  | cellRead => exact linksKept_execCellRead h
  | setWalker => exact linksKept_execSetWalker h
  | linkEnable => exact linksKept_execLinkEnable h
  | linkDisable => exact linksKept_execLinkDisable h
  | linkReset => exact linksKept_execLinkReset h
  | linkClearFlags => exact linksKept_execLinkClearFlags h
  | present => exact linksKept_execPresent h
  | cancelPresent => exact linksKept_execCancelPresent h
  | presentRead => exact linksKept_execPresentRead h
  | setTimer => exact linksKept_execSetTimer h
  | softReset => exact linksKept_execSoftReset h

/-- Settles O56: the rules go through every arm of `exec`. -/
theorem stepKeepsTheLinksSound : Obligations.StepKeepsTheLinksSound := by
  intro s t hs h
  unfold step at h
  split at h
  · cases h
    exact hs
  · next c rest _ => exact exec_linksKept h (linksSound_congr (t := { s with pending := rest }) rfl rfl rfl hs)

end Sys2Proof.Machine

/-! ## The tile table, its cells and the query: what each command does (R42 to R53, R76, R167) -/

namespace Sys2Proof.Machine

open Sys2Proof.Safety

/-- A tile parameter in its range names the tile of that number. -/
theorem paramTile_of_val {t : TileIdx} {ps : List Word} {i : Nat} (h : t.val = param ps i) : paramTile ps i = t := by
  rw [paramTile, ← h]
  exact Fin.ofNat_val_eq_self t

theorem not_beyond_of_tile {t : TileIdx} {n : Nat} (h : t.val = n) : ¬ 15 < n := by
  omega

theorem enabled_iff (r : TileRecord) : r.enabled = true ↔ r.state ≠ .disabled := by
  simp [TileRecord.enabled]

theorem isActive_iff (r : TileRecord) : r.isActive = true ↔ r.state = .active := by
  simp [TileRecord.isActive]

/-- A command that writes one tile's record and ends. -/
theorem State.complete_setTile (s : State) (code : Byte) (t : TileIdx) (r : TileRecord) (ws : List Word) :
    ((s.hostAccess.takeCommand code).setTile t r).complete ws =
      { s.hostAccess with cu := ended s code .ok ws, tiles := s.tiles.set t r } := by
  rw [State.takeCommand_hostAccess]
  simp only [State.setTile, State.tiles_hostAccess]
  rfl

/-! ### The commands that read (R46, R53, R76, R167) -/

theorem State.tileReadWords_taken (s : State) (code : Byte) (t : TileIdx) :
    (s.hostAccess.takeCommand code).tileReadWords t = s.tileReadWords t := by
  simp only [State.tileReadWords, State.tile_takeCommand, State.tile_hostAccess, State.link_takeCommand, State.link_hostAccess]

theorem State.cellReadWords_taken (s : State) (code : Byte) (t : TileIdx) (w : WallBand) :
    (s.hostAccess.takeCommand code).cellReadWords t w = s.cellReadWords t w := by
  simp [State.cellReadWords, State.walkerRunning]

theorem exec_tileRead {v : Word} {s : State} (accepted : Accepted s [v]) :
    (15 < v.toNat → exec .tileRead s = .next { s.hostAccess with cu := ended s 0x0D .range [] }) ∧
    (∀ t : TileIdx, t.val = v.toNat →
      exec .tileRead s = .next { s.hostAccess with cu := ended s 0x0D .ok (s.tileReadWords t) }) := by
  have run : exec .tileRead s = .next _ := s.commandWrite_accepted _ _ _ _ accepted rfl
  refine ⟨fun beyond => ?_, fun t ht => ?_⟩
  · rw [run, if_pos (by exact beyond), State.refuse_hostAccess_takeCommand]
  · rw [run, if_neg (by exact not_beyond_of_tile ht), paramTile_of_val (by exact ht), State.tileReadWords_taken, State.complete_hostAccess_takeCommand]

theorem exec_queryRead {s : State} (accepted : Accepted s []) :
    exec .queryRead s = .next { s.hostAccess with cu := ended s 0x0F .ok s.query.words } := by
  have run : exec .queryRead s = .next _ := s.commandWrite_accepted _ _ _ _ accepted rfl
  rw [run, State.complete_hostAccess_takeCommand, State.query_takeCommand, State.query_hostAccess]

theorem exec_presentRead {s : State} (accepted : Accepted s []) :
    exec .presentRead s = .next { s.hostAccess with cu := ended s 0x18 .ok s.present.words } := by
  have run : exec .presentRead s = .next _ := s.commandWrite_accepted _ _ _ _ accepted rfl
  rw [run, State.complete_hostAccess_takeCommand, State.present_takeCommand, State.present_hostAccess]

theorem exec_cellRead {i v : Word} {s : State} (accepted : Accepted s [i, v]) :
    (15 < i.toNat ∨ 47 < v.toNat → exec .cellRead s = .next { s.hostAccess with cu := ended s 0x10 .range [] }) ∧
    (∀ (t : TileIdx) (w : WallBand), t.val = i.toNat → w.val = v.toNat →
      exec .cellRead s = .next { s.hostAccess with cu := ended s 0x10 .ok (s.cellReadWords t w) }) := by
  have run : exec .cellRead s = .next _ := s.commandWrite_accepted _ _ _ _ accepted rfl
  refine ⟨fun beyond => ?_, fun t w ht hw => ?_⟩
  · rw [run, if_pos (by exact beyond), State.refuse_hostAccess_takeCommand]
  · have inside : ¬ (15 < param [i, v] 0 ∨ 47 < param [i, v] 1) := by
      simp only [param, List.getD_cons_zero, List.getD_cons_succ]
      omega
    have band : Fin.ofNat 48 (param [i, v] 1) = w := by
      rw [show param [i, v] 1 = w.val from hw.symm]
      exact Fin.ofNat_val_eq_self w
    rw [run, if_neg inside, paramTile_of_val (by exact ht), band, State.cellReadWords_taken,
      State.complete_hostAccess_takeCommand]

/-- Settles O29: the commands one by one. -/
theorem readCommandsReturnTheRecords : Obligations.ReadCommandsReturnTheRecords :=
  ⟨fun _ _ accepted => exec_tileRead accepted, fun _ accepted => ⟨exec_queryRead accepted, exec_presentRead accepted⟩,
    fun _ _ _ accepted => exec_cellRead accepted⟩

/-! ### TILE SET and TILE ENABLE (R42, R43) -/

theorem badPlacement_iff (i k p c w f n : Word) : badPlacement [i, k, p, c, w, f, n] = true ↔
    ¬ (i.toNat ≤ 15 ∧ k.toNat ≤ 3 ∧ p.toNat ≤ 3 ∧ c.toNat % 8 = 0 ∧ c.toNat ≤ 504 ∧ w.toNat % 8 = 0 ∧ 8 ≤ w.toNat ∧
      w.toNat ≤ 512 ∧ c.toNat + w.toNat ≤ 512 ∧ f.toNat ≤ 47 ∧ 1 ≤ n.toNat ∧ n.toNat ≤ 48 ∧ f.toNat + n.toNat ≤ 48) := by
  simp only [badPlacement, param, List.getD_cons_zero, List.getD_cons_succ, Bool.or_eq_true, decide_eq_true_eq, bne_iff_ne,
    badWidth_iff]
  omega

/-- Settles O26: the checks of TILE SET in their order, and the one record it writes. -/
theorem tileSetWritesThePlacement : Obligations.TileSetWritesThePlacement := by
  intro i k p c w f n s accepted good
  have run : exec .tileSet s = .next _ := s.commandWrite_accepted _ _ _ _ accepted rfl
  have range : badPlacement [i, k, p, c, w, f, n] = true ↔ ¬ good := badPlacement_iff ..
  have taken : ∀ u, ((s.hostAccess.takeCommand 0x0A).tile u).enabled = true ↔ (s.tile u).state ≠ .disabled := fun u => by
    rw [State.tile_takeCommand, State.tile_hostAccess, enabled_iff]
  refine ⟨fun bad => ?_, fun t ht fits on => ?_, fun t ht fits off => ?_⟩
  · rw [run, if_pos (range.mpr bad), State.refuse_hostAccess_takeCommand]
  · rw [run, if_neg (range.not_left.mpr fits), paramTile_of_val (by exact ht), if_pos ((taken t).mpr on),
      State.refuse_hostAccess_takeCommand]
  · rw [run, if_neg (range.not_left.mpr fits), paramTile_of_val (by exact ht), if_neg ((taken t).not_left.mpr off),
      State.complete_setTile]
    rfl

theorem BandMap.beyond_iff (m : BandMap) (r : TileRecord) : m.beyond r = true ↔
    m.width < r.firstColumn + r.width ∨ m.bandCount < r.firstBand + r.bandCount ∨ r.width = 0 ∨ r.bandCount = 0 := by
  simp [BandMap.beyond, or_assoc]

theorem State.conflicts_iff (s : State) (t : TileIdx) : s.conflicts t = true ↔
    ∃ u, u ≠ t ∧ (s.tile u).state ≠ .disabled ∧ (s.tile u).link = (s.tile t).link ∧
      (s.tile u).position = (s.tile t).position := by
  simp [State.conflicts, TileRecord.enabled, and_assoc]

theorem State.canBeActive_iff (s : State) (t : TileIdx) : s.canBeActive t = true ↔
    (s.link (s.tile t).link).state = .up ∧ ((s.link (s.tile t).link).position (s.tile t).position).present = true := by
  simp [State.canBeActive]

/-- What TILE ENABLE looks at is not touched by the taking of the command. -/
theorem State.conflicts_taken (s : State) (code : Byte) (t : TileIdx) :
    (s.hostAccess.takeCommand code).conflicts t = s.conflicts t := by
  simp [State.conflicts]

theorem State.canBeActive_taken (s : State) (code : Byte) (t : TileIdx) :
    (s.hostAccess.takeCommand code).canBeActive t = s.canBeActive t := by
  simp [State.canBeActive]

/-- Settles O27: the checks of TILE ENABLE in their order, and the state that R39 asks for. -/
theorem tileEnableChoosesTheState : Obligations.TileEnableChoosesTheState := by
  intro v s accepted
  have run : exec .tileEnable s = .next _ := s.commandWrite_accepted _ _ _ _ accepted rfl
  refine ⟨fun beyond => ?_, fun t ht => ?_⟩
  · rw [run, if_pos (by exact beyond), State.refuse_hostAccess_takeCommand]
  intro r outside taken up
  have inside : ¬ 15 < param [v] 0 := not_beyond_of_tile ht
  have off : r.enabled = true ↔ r.state ≠ .disabled := enabled_iff r
  have out : s.hostAccess.map.beyond r = true ↔ outside := by rw [State.map_hostAccess]; exact s.map.beyond_iff r
  have clash : s.conflicts t = true ↔ taken := s.conflicts_iff t
  have active : s.canBeActive t = true ↔ up := s.canBeActive_iff t
  simp only [paramTile_of_val (ps := [v]) (i := 0) ht, State.tile_takeCommand, State.tile_hostAccess, State.map_takeCommand,
    State.conflicts_taken, State.canBeActive_taken, if_neg inside, State.refuse_hostAccess_takeCommand,
    State.complete_setTile] at run
  rw [run]
  refine ⟨fun on => ?_, fun isOff isOut => ?_, fun isOff isIn isTaken => ?_, fun isOff isIn free isUp => ?_,
    fun isOff isIn free notUp => ?_⟩
  · rw [if_pos (off.mpr on)]
  · rw [if_neg (off.not_left.mpr isOff), if_pos (out.mpr isOut)]
  · rw [if_neg (off.not_left.mpr isOff), if_neg (out.not.mpr isIn), if_pos (clash.mpr isTaken)]
  · rw [if_neg (off.not_left.mpr isOff), if_neg (out.not.mpr isIn), if_neg (clash.not.mpr free), active.mpr isUp]
    rfl
  · rw [if_neg (off.not_left.mpr isOff), if_neg (out.not.mpr isIn), if_neg (clash.not.mpr free),
      Bool.eq_false_iff.mpr (active.not.mpr notUp)]
    rfl

end Sys2Proof.Machine

namespace Sys2Proof.Machine

open Sys2Proof.Safety

/-! ### The query (R49 to R51) -/

theorem hasRoom_iff (l : LinkSlice) : l.hasRoom = true ↔ ¬ 32 ≤ l.queue.length := by
  rw [LinkSlice.hasRoom, decide_eq_true_iff, Nat.not_le]
  rfl

theorem numWord_toNat (b : Byte) : numWord b.toNat = b.setWidth 16 := by
  rw [numWord, BitVec.ofNat_toNat]

/-- A query that begins and the end of its command, as one change of the state (R49). -/
theorem State.complete_startQuery (s : State) (code : Byte) (t : TileIdx) (ws : List Word) :
    ((s.hostAccess.takeCommand code).startQuery t).complete ws = { s.hostAccess with
      cu := ended s code .ok ws
      links := s.links.set (s.tile t).link ((s.link (s.tile t).link).enqueue (.query t (s.query.tag + 1)))
      query := ⟨true, t, s.query.tag + 1, .none, 0, 0, 0, 0, some s.timers.queryTimeout⟩ } := by
  have cu : ((s.hostAccess.takeCommand code).startQuery t).cu = (s.takeCommand code).cu := by
    simp [State.startQuery, State.takeCommand]
  rw [State.complete, State.finish_of_taken s _ code .ok ws cu]
  simp only [State.startQuery, State.updateLink, State.setLink, State.tile_takeCommand, State.tile_hostAccess,
    State.link_takeCommand, State.link_hostAccess, State.links_takeCommand, State.links_hostAccess, State.query_takeCommand,
    State.query_hostAccess, State.timers_takeCommand, State.timers_hostAccess]
  rfl

/-- Settles O31: the checks of QUERY TILE in their order, and the query that begins. -/
theorem queryTileQueuesAQuery : Obligations.QueryTileQueuesAQuery := by
  intro v s accepted
  have run : exec .queryTile s = .next _ := s.commandWrite_accepted _ _ _ _ accepted rfl
  refine ⟨fun beyond => ?_, fun t ht => ?_⟩
  · rw [run, if_pos (by exact beyond), State.refuse_hostAccess_takeCommand]
  intro k busy
  have inside : ¬ 15 < param [v] 0 := not_beyond_of_tile ht
  have active : (!(s.tile t).isActive) = true ↔ (s.tile t).state ≠ .active := by simp [TileRecord.isActive]
  have full : (!(s.link k).hasRoom) = true ↔ 32 ≤ (s.link k).queue.length := by
    rw [Bool.not_eq_true', ← Bool.not_eq_true, hasRoom_iff, not_not]
  simp only [paramTile_of_val (ps := [v]) (i := 0) ht, State.tile_takeCommand, State.tile_hostAccess, State.link_takeCommand,
    State.link_hostAccess, if_neg inside, State.query_takeCommand, State.query_hostAccess, numWord_toNat] at run
  rw [run]
  refine ⟨fun idle => ?_, fun isActive isBusy => ?_, fun isActive free => ?_⟩
  · rw [if_pos (active.mpr idle), State.refuse_hostAccess_takeCommand]
  · rw [if_neg (active.not_left.mpr isActive)]
    rcases isBusy with waiting | isFull
    · rw [if_pos waiting, State.refuse_hostAccess_takeCommand]
    · rw [if_pos (full.mpr isFull), ite_self, State.refuse_hostAccess_takeCommand]
  · obtain ⟨notWaiting, room⟩ := not_or.mp free
    rw [if_neg (active.not_left.mpr isActive), if_neg notWaiting, if_neg (full.not.mpr room),
      State.complete_startQuery]
    rfl

theorem State.acceptsReport_iff (s : State) (k : Link) (p : Position) (tag : Byte) : s.acceptsReport k p tag = true ↔
    s.query.waiting = true ∧ (s.tile s.query.tile).link = k ∧ (s.tile s.query.tile).position = p ∧ s.query.tag = tag := by
  simp [State.acceptsReport, and_assoc]

theorem State.restartSilence_eq (s : State) (k : Link) : s.restartSilence k =
    s.setLink k { s.link k with silenceTimer := some s.timers.silenceTimeout } := rfl

/-- A notice on a link in UP restarts its silence timer and goes to its block (R108). -/
theorem State.notice_up {s : State} {k : Link} (up : (s.link k).state = .up) (f : State → State) :
    s.notice k f = f (s.restartSilence k) := by
  simp only [State.notice, up]

/-- A REPORT on a link in UP goes to the Query Unit (R50). -/
theorem exec_reportNotice_up {k : Link} {p : Position} {tag : Byte} {capacity : Nibble} {shown : Byte} {restart : Nibble}
    {word : BitVec 32} {s : State} (high : s.nReset = true) (up : (s.link k).state = .up) :
    exec (.reportNotice k p tag capacity shown restart word) s =
      .next ((s.restartSilence k).takeReport k p tag capacity shown restart word) := by
  have run : execReportNotice k p tag capacity shown restart word s = .next _ := s.event_running _ high
  rwa [State.notice_up up] at run

/-- Settles O43: the report that the Query Unit accepts, the stray one, and the timeout. -/
theorem reportsAndTimeoutEndTheQuery : Obligations.ReportsAndTimeoutEndTheQuery := by
  refine ⟨fun k p tag capacity shown restart word s high up => ?_, fun s high waiting timeout => ?_⟩
  · intro c l matched
    have accepts : (s.restartSilence k).acceptsReport k p tag = true ↔ matched := s.acceptsReport_iff k p tag
    rw [exec_reportNotice_up high up, State.takeReport]
    refine ⟨fun isMatched => ?_, fun stray => ?_⟩
    · rw [if_pos (accepts.mpr isMatched)]
      obtain ⟨-, rfl, -, rfl⟩ := isMatched
      rfl
    · rw [if_neg (accepts.not.mpr stray), State.restartSilence_eq, State.updateLink_setLink]
      rfl
  · have run : exec .queryTimeout s = .next _ := s.event_running _ high
    rw [run, if_pos (by simpa [waiting] using Option.isSome_iff_ne_none.mpr timeout)]
    rfl

end Sys2Proof.Machine

namespace Sys2Proof.Machine

open Sys2Proof.Safety

/-! ### TILE DISABLE (R44) -/

/-- What the removal of a tile's entries leaves fills the queue to its depth, and the rest is the backlog (R44, R81). -/
theorem LinkSlice.queue_removeTile {l : LinkSlice} (bound : l.queue.length ≤ 32) (t : TileIdx) :
    ((l.removeTile t).orphanTile t).queue = ((l.queue ++ l.backlog).filter fun e => e.tile != t).take 32 := by
  rw [List.filter_append, List.take_append, List.take_of_length_le ((List.length_filter_le ..).trans bound)]
  rfl

theorem LinkSlice.backlog_removeTile {l : LinkSlice} (bound : l.queue.length ≤ 32) (t : TileIdx) :
    ((l.removeTile t).orphanTile t).backlog = ((l.queue ++ l.backlog).filter fun e => e.tile != t).drop 32 := by
  rw [List.filter_append, List.drop_append, List.drop_of_length_le ((List.length_filter_le ..).trans bound)]
  rfl

theorem LinkSlice.hold_removeTile (l : LinkSlice) (t : TileIdx) :
    ((l.removeTile t).orphanTile t).hold = l.hold.map fun h => if h.tile = t then { h with orphan := true } else h := by
  simp [LinkSlice.orphanTile, LinkSlice.removeTile, LinkSlice.refill]

/-- The arbiter that TILE DISABLE leaves, by the engine it leaves: only an abandoned dispatch without the grant falls idle. -/
theorem State.arbiterWithout_eq (s : State) (t : TileIdx) : s.arbiterWithout t =
    if s.engineWithout t = .idle ∧ (s.link (s.tile t).link).engine ≠ .idle then s.arbiter.withdraw (s.tile t).link
    else s.arbiter := by
  by_cases dispatches : (s.link (s.tile t).link).dispatches t = true
  · obtain ⟨w, b, engine⟩ := LinkSlice.engine_of_dispatches dispatches
    cases holds : s.holds (.capture (s.tile t).link) <;>
      simp [State.arbiterWithout, State.engineWithout, dispatches, engine, holds, stoppedEngine]
  · have stays : s.engineWithout t = (s.link (s.tile t).link).engine := if_neg dispatches
    rw [stays, if_neg fun h => h.2 h.1]
    simp [State.arbiterWithout, dispatches]

/-- TILE DISABLE of an ACTIVE tile: the fields of its tile, its link and the arbiter, and what the departure writes (R41, R44). -/
theorem State.disableTile_active_frame {s : State} {t : TileIdx} (active : (s.tile t).isActive = true) :
    ∃ x p q a n, s.disableTile t =
      { s.withoutTile t with cells := x, present := p, query := q, attention := a, freeCount := n } := by
  rw [State.disableTile_active active]
  exact State.leaveActive_frame ..

section Taken

variable (s : State) (code : Byte)

/-- What TILE DISABLE takes from a tile is not touched by the taking of the command. -/
theorem State.withoutTile_taken (t : TileIdx) : (s.hostAccess.takeCommand code).withoutTile t =
    { s.hostAccess.takeCommand code with
      tiles := (s.withoutTile t).tiles, arbiter := (s.withoutTile t).arbiter, links := (s.withoutTile t).links } := by
  have engine : (s.hostAccess.takeCommand code).engineWithout t = s.engineWithout t := by
    simp [State.engineWithout, State.holds]
  have arbiter : (s.hostAccess.takeCommand code).arbiterWithout t = s.arbiterWithout t := by
    simp [State.arbiterWithout, State.holds]
  simp only [State.withoutTile, engine, arbiter, State.setTile, State.setLink, State.tile_takeCommand, State.tile_hostAccess,
    State.link_takeCommand, State.link_hostAccess, State.links_takeCommand, State.links_hostAccess, State.tiles_takeCommand,
    State.tiles_hostAccess]

end Taken

/-- TILE DISABLE of an ACTIVE tile and the end of its command, as one change of the state, and the departure that it tells. -/
theorem State.complete_disableTile {s : State} {t : TileIdx} (code : Byte) (active : (s.tile t).state = .active) :
    ∃ u, ((s.hostAccess.takeCommand code).disableTile t).complete [] = u ∧
      (∃ x p q a n, u = { s.hostAccess with
        cu := ended s code .ok [], tiles := (s.withoutTile t).tiles, arbiter := (s.withoutTile t).arbiter
        links := (s.withoutTile t).links, cells := x, present := p, query := q, attention := a, freeCount := n }) ∧
      Departed s u s.attention [t] ((s.link (s.tile t).link).entriesOf t) := by
  have isActive : ((s.hostAccess.takeCommand code).tile t).isActive = true := by
    rw [State.tile_takeCommand, State.tile_hostAccess]
    exact (isActive_iff _).mpr active
  have departed := departed_disableTile isActive
  obtain ⟨x, p, q, a, n, e⟩ := State.disableTile_active_frame isActive
  have cu : ((s.hostAccess.takeCommand code).disableTile t).cu = (s.takeCommand code).cu := by
    rw [e, State.withoutTile_taken]
    simp [State.takeCommand]
  refine ⟨_, rfl, ⟨x, p, q, a, n, ?_⟩, ?_⟩
  · rw [State.complete, State.finish_of_taken s _ code .ok [] cu, e, State.withoutTile_taken]
    rfl
  · simp only [State.tile_takeCommand, State.tile_hostAccess, State.link_takeCommand, State.link_hostAccess,
      State.attention_takeCommand, State.attention_hostAccess] at departed
    exact departed_of_same (departed_of_same_result departed rfl rfl rfl rfl) (by simp) (by simp) (by simp)
      fun u => ⟨(s.tile u).state, by simp⟩

/-- Settles O28: the checks of TILE DISABLE, the WAITING tile, and the ACTIVE tile with the departure it tells. -/
theorem tileDisableGivesUpItsWork : Obligations.TileDisableGivesUpItsWork := by
  refine ⟨fun v s accepted beyond => ?_, fun v u s accepted hv => ?_⟩
  · have run : exec .tileDisable s = .next _ := s.commandWrite_accepted _ _ _ _ accepted rfl
    rw [run, if_pos (by exact beyond), State.refuse_hostAccess_takeCommand]
  intro r l
  have run : exec .tileDisable s = .next _ := s.commandWrite_accepted _ _ _ _ accepted rfl
  have inside : ¬ 15 < param [v] 0 := not_beyond_of_tile hv.symm
  have on : r.enabled = true ↔ r.state ≠ .disabled := enabled_iff r
  simp only [paramTile_of_val (ps := [v]) (i := 0) hv.symm, State.tile_takeCommand, State.tile_hostAccess, if_neg inside] at run
  refine ⟨fun off => ?_, fun waiting => ?_, fun active bound => ?_⟩
  · rw [run, if_neg (on.not_left.mpr off), State.refuse_hostAccess_takeCommand]
  · have idle : ¬ r.isActive = true := by simp [isActive_iff, waiting]
    have left : (s.hostAccess.takeCommand 0x0C).disableTile u =
        (s.hostAccess.takeCommand 0x0C).setTile u { r with state := .disabled } := by
      simp only [State.disableTile, State.tile_takeCommand, State.tile_hostAccess]
      exact if_neg idle
    rw [run, if_pos (on.mpr (by simp [waiting])), left, State.complete_setTile]
  · rw [if_pos (on.mpr (by simp [active]))] at run
    obtain ⟨t, ends, ⟨x, p, q, a, n, rfl⟩, departed⟩ := State.complete_disableTile (s := s) (t := u) 0x0C active
    rw [ends] at run
    have link : ∀ j, (s.withoutTile u).link j = _ := s.link_withoutTile u
    have self : (s.withoutTile u).link r.link = _ := (link r.link).trans (if_pos rfl)
    refine ⟨_, run, rfl, rfl, ?_, ?_, ?_, ?_, ?_, fun j other => (link j).trans (if_neg other), departed, ?_,
      s.store_hostAccess, s.map_hostAccess, s.window_hostAccess, s.fill_hostAccess, s.timers_hostAccess, s.walker_hostAccess,
      rfl, s.notReady_hostAccess, s.nReset_hostAccess⟩
    · exact (congrArg LinkSlice.queue self).trans (LinkSlice.queue_removeTile bound u)
    · exact (congrArg LinkSlice.backlog self).trans (LinkSlice.backlog_removeTile bound u)
    · exact (congrArg LinkSlice.hold self).trans (LinkSlice.hold_removeTile _ u)
    · exact congrArg LinkSlice.engine self
    · exact congrArg (fun m : LinkSlice => { m with
        queue := l.queue, backlog := l.backlog, hold := l.hold, engine := l.engine }) self
    · have engine : ((s.withoutTile u).link r.link).engine = s.engineWithout u := congrArg LinkSlice.engine self
      have arbiter : (s.withoutTile u).arbiter = _ := s.arbiterWithout_eq u
      rw [← engine] at arbiter
      exact arbiter

end Sys2Proof.Machine

/-! ## The rules of cells, queues and hold lists, cell by cell, record by record, entry by entry (R54, R55, R56) -/

namespace Sys2Proof.Machine

open Sys2Proof.Safety

/-- Whether (t, w) is a cell of an ACTIVE tile (R54). -/
def State.inUse (s : State) (t : TileIdx) (w : WallBand) : Bool := (s.tile t).isActive && (s.tile t).hasBand w

/-- R54 to R56 for one cell record, `held` being the records of each link that are still to be released. -/
structure CellRule (s : State) (held : Link → List HoldRecord) (t : TileIdx) (w : WallBand) : Prop where
  outside : s.inUse t w = false → s.cell t w = ⟨.stale, false⟩
  entries : s.inUse t w = true →
    (s.link (s.tile t).link).queue.count (.cell t w) = ((s.cell t w).state == .queued).toNat
  records : s.inUse t w = true → (held (s.tile t).link).countP (liveRecordOf t w) = (inFlight (s.cell t w).state).toNat

/-- A live record of link k names an ACTIVE tile of the link, its chain position, and a cell of it. -/
def RecordPlaced (s : State) (k : Link) (r : HoldRecord) : Prop :=
  (s.tile r.tile).isActive = true ∧ (s.tile r.tile).link = k ∧ (s.tile r.tile).position = r.position ∧
  (∀ w, bodyBand r.body = some w → (s.tile r.tile).hasBand w = true)

/-- The rules of `CellsSound`, the hold lists apart: a release takes its records from their list before their effects. -/
structure CellRules (s : State) (held : Link → List HoldRecord) : Prop where
  cells : ∀ t w, CellRule s held t w
  records : ∀ k, ∀ r ∈ held k, r.orphan = false → RecordPlaced s k r
  entries : CellEntriesPlaced s

theorem cellsSound_iff (s : State) : CellsSound s ↔ CellRules s fun k => (s.link k).hold := by
  constructor
  · rintro ⟨other, work, records, entries⟩
    refine ⟨fun t w => ⟨other t w, fun used => ?_, fun used => ?_⟩, records, entries⟩
    all_goals
      obtain ⟨active, band⟩ := Bool.and_eq_true_iff.mp used
      obtain ⟨queued, live⟩ := work t w active band
      assumption
  · rintro ⟨cells, records, entries⟩
    refine ⟨fun t w => (cells t w).outside, fun t w active band => ?_, records, entries⟩
    have used : s.inUse t w = true := Bool.and_eq_true_iff.mpr ⟨active, band⟩
    exact ⟨(cells t w).entries used, (cells t w).records used⟩

theorem liveRecordOf_iff (t : TileIdx) (w : WallBand) (r : HoldRecord) :
    liveRecordOf t w r = true ↔ r.orphan = false ∧ r.tile = t ∧ bodyBand r.body = some w := by
  simp [liveRecordOf, and_assoc]

/-! ### What moves no work -/

/-- A record that stands for the same work as another, and is STALE and unmarked where that one is. -/
structure CellRecord.SameStanding (c c' : CellRecord) : Prop where
  queued : (c'.state == .queued) = (c.state == .queued)
  inFlight : inFlight c'.state = inFlight c.state
  stale : c = ⟨.stale, false⟩ → c' = ⟨.stale, false⟩

theorem CellRecord.SameStanding.refl (c : CellRecord) : c.SameStanding c := ⟨rfl, rfl, id⟩

/-- Only the mark is taken (R65, R158). -/
theorem CellRecord.sameStanding_unmarked (c : CellRecord) : c.SameStanding { c with marked := false } :=
  ⟨rfl, rfl, fun stale => by rw [stale]⟩

/-- W and M leave a QUEUED cell QUEUED and a cell in flight in flight, and a STALE one as it is (R58, R59). -/
theorem CellRecord.sameStanding_change (c : CellRecord) : c.SameStanding c.change := by
  obtain ⟨state, marked⟩ := c
  cases state <;> constructor <;> simp [CellRecord.change, CellState.onChange, Safety.inFlight]

/-- No cell comes to a queue or a hold list or leaves one, the hold lists apart: tiles stay, the CELL entries are as many, and a
cell stays QUEUED, stays in flight and, outside the ACTIVE tiles, stays STALE and unmarked. -/
structure SameCells (s t : State) : Prop where
  tiles : ∀ u, t.tile u = s.tile u
  entries : ∀ k u w, (t.link k).queue.count (.cell u w) = (s.link k).queue.count (.cell u w)
  queued : ∀ u w, ((t.cell u w).state == .queued) = ((s.cell u w).state == .queued)
  inFlight : ∀ u w, inFlight (t.cell u w).state = inFlight (s.cell u w).state
  outside : ∀ u w, s.inUse u w = false → s.cell u w = ⟨.stale, false⟩ → t.cell u w = ⟨.stale, false⟩

/-- No work moves, and the hold lists stay. -/
structure SameWork (s t : State) : Prop extends SameCells s t where
  hold : ∀ k, (t.link k).hold = (s.link k).hold

namespace SameCells

variable {s t u : State}

theorem inUse (h : SameCells s t) (v : TileIdx) (w : WallBand) : t.inUse v w = s.inUse v w := by
  simp only [State.inUse, h.tiles]

theorem trans (h : SameCells s t) (g : SameCells t u) : SameCells s u where
  tiles v := (g.tiles v).trans (h.tiles v)
  entries k v w := (g.entries k v w).trans (h.entries k v w)
  queued v w := (g.queued v w).trans (h.queued v w)
  inFlight v w := (g.inFlight v w).trans (h.inFlight v w)
  outside v w free stale := g.outside v w (by rwa [h.inUse]) (h.outside v w free stale)

theorem cellRules {held : Link → List HoldRecord} (h : SameCells s t) (hs : CellRules s held) : CellRules t held where
  cells v w := by
    obtain ⟨outside, entries, records⟩ := hs.cells v w
    refine ⟨fun free => ?_, fun used => ?_, fun used => ?_⟩
    · rw [h.inUse] at free
      exact h.outside v w free (outside free)
    · rw [h.inUse] at used
      rw [h.tiles, h.entries, h.queued, entries used]
    · rw [h.inUse] at used
      rw [h.tiles, h.inFlight, records used]
  records k r hr live := by
    have placed := hs.records k r hr live
    rwa [RecordPlaced, ← h.tiles] at placed
  entries k v w he := by
    rw [← List.count_pos_iff, h.entries, List.count_pos_iff] at he
    rw [h.tiles]
    exact hs.entries k v w he

end SameCells

namespace SameWork

variable {s t u : State}

theorem of_cells_hold (h : SameCells s t) (hold : ∀ k, (t.link k).hold = (s.link k).hold) : SameWork s t := { h with hold := hold }

/-- Cells, tiles, queues and hold lists stay. -/
theorem of_queues (cells : t.cells = s.cells) (tiles : t.tiles = s.tiles)
    (queue : ∀ k, (t.link k).queue = (s.link k).queue) (hold : ∀ k, (t.link k).hold = (s.link k).hold) : SameWork s t := by
  have cell : ∀ v w, t.cell v w = s.cell v w := fun v w => by simp only [State.cell, cells]
  exact {
    tiles := fun v => by simp only [State.tile, tiles]
    entries := fun k v w => by rw [queue]
    queued := fun v w => by rw [cell]
    inFlight := fun v w => by rw [cell]
    outside := fun v w _ stale => by rw [cell, stale]
    hold := hold }

/-- Cells, tiles and links stay. -/
theorem of_eq (cells : t.cells = s.cells) (tiles : t.tiles = s.tiles) (links : t.links = s.links) : SameWork s t :=
  .of_queues cells tiles (fun k => by simp only [State.link, links]) fun k => by simp only [State.link, links]

theorem refl (s : State) : SameWork s s := .of_eq rfl rfl rfl

theorem trans (h : SameWork s t) (g : SameWork t u) : SameWork s u :=
  .of_cells_hold (h.toSameCells.trans g.toSameCells) fun k => (g.hold k).trans (h.hold k)

theorem foldl {α : Type} {f : State → α → State} (h : ∀ s a, SameWork s (f s a)) (l : List α) (s : State) :
    SameWork s (l.foldl f s) := by
  induction l generalizing s with
  | nil => exact refl s
  | cons a l ih => exact (h s a).trans (ih _)

/-- What moves no work from a state on with the same cells, tiles and links. -/
theorem after (g : SameWork t u) (cells : t.cells = s.cells) (tiles : t.tiles = s.tiles) (links : t.links = s.links) :
    SameWork s u := (of_eq cells tiles links).trans g

theorem when {p : Prop} [Decidable p] (h : p → SameWork s t) : SameWork s (if p then t else s) := by
  split
  · next hp => exact h hp
  · exact refl s

theorem setArbiter (h : SameWork s t) (a : Arbiter) : SameWork s { t with arbiter := a } := h.trans (.of_eq rfl rfl rfl)

theorem request (h : SameWork s t) (r : Requester) : SameWork s (t.request r) := h.setArbiter _

theorem releaseGrant (h : SameWork s t) : SameWork s t.releaseGrant := h.setArbiter _

theorem attend (h : SameWork s t) (e : AttentionEvent) : SameWork s (t.attend e) := h.trans (.of_eq rfl rfl rfl)

/-- The slice of link k changes, but for its hold list and the CELL entries of its queue. -/
theorem setLink {k : Link} {l : LinkSlice} (s : State)
    (entries : ∀ v w, l.queue.count (.cell v w) = (s.link k).queue.count (.cell v w))
    (hold : l.hold = (s.link k).hold) : SameWork s (s.setLink k l) where
  tiles _ := rfl
  entries j v w := by
    rw [State.link_setLink]
    split
    · next same => rw [entries, same]
    · rfl
  queued _ _ := rfl
  inFlight _ _ := rfl
  outside _ _ _ stale := stale
  hold j := by
    rw [State.link_setLink]
    split
    · next same => rw [hold, same]
    · rfl

/-- The same beside what else the state tells of other blocks. -/
theorem of_setLink {k : Link} {l : LinkSlice} (links : t.links = (s.setLink k l).links) (cells : t.cells = s.cells)
    (tiles : t.tiles = s.tiles) (entries : ∀ v w, l.queue.count (.cell v w) = (s.link k).queue.count (.cell v w))
    (hold : l.hold = (s.link k).hold) : SameWork s t :=
  (SameWork.setLink s entries hold).trans (.of_eq cells tiles links)

/-- The slice of link k changes, but for its queue and hold list. -/
theorem updateLink {k : Link} {f : LinkSlice → LinkSlice} (s : State) (queue : (f (s.link k)).queue = (s.link k).queue)
    (hold : (f (s.link k)).hold = (s.link k).hold) : SameWork s (s.updateLink k f) :=
  .setLink s (fun _ _ => by rw [queue]) hold

/-- Cells change in themselves. -/
theorem of_cells (h : ∀ v w, (s.cell v w).SameStanding (t.cell v w)) (tiles : t.tiles = s.tiles) (links : t.links = s.links) :
    SameWork s t where
  tiles v := by simp only [State.tile, tiles]
  entries k v w := by simp only [State.link, links]
  queued v w := (h v w).queued
  inFlight v w := (h v w).inFlight
  outside v w _ := (h v w).stale
  hold k := by simp only [State.link, links]

end SameWork

/-- The rules of cells go from one state to another where those of the links hold. -/
def CellsKept (s t : State) : Prop := LinksSound s → CellsSound s → CellsSound t

theorem SameWork.cellsSound {s t : State} (h : SameWork s t) (hs : CellsSound s) : CellsSound t := by
  rw [cellsSound_iff] at hs ⊢
  have rules := h.toSameCells.cellRules hs
  simpa only [← h.hold] using rules

theorem SameWork.cellsKept {s t : State} (h : SameWork s t) : CellsKept s t := fun _ => h.cellsSound

namespace CellsKept

variable {s t u : State}

theorem refl (s : State) : CellsKept s s := fun _ => id

theorem trans (h : CellsKept s t) (links : LinksKept s t) (g : CellsKept t u) : CellsKept s u :=
  fun hl hs => g (links hl) (h hl hs)

/-- What follows moves no work. -/
theorem before (h : CellsKept s t) (g : SameWork t u) : CellsKept s u := fun hl hs => g.cellsSound (h hl hs)

/-- What keeps the rules from a state on with the same cells, tiles, links and present. -/
theorem after (g : CellsKept t u) (cells : t.cells = s.cells) (tiles : t.tiles = s.tiles) (links : t.links = s.links)
    (present : t.present = s.present) : CellsKept s u :=
  (SameWork.of_eq cells tiles links).cellsKept.trans (.of_eq links tiles present) g

theorem when {p : Prop} [Decidable p] (h : p → CellsKept s t) : CellsKept s (if p then t else s) := by
  split
  · next hp => exact h hp
  · exact refl s

theorem finish (h : CellsKept s t) (r : ResultCode) (ws : List Word) : CellsKept s (t.finish r ws) :=
  h.before (.of_eq rfl rfl rfl)

theorem complete (h : CellsKept s t) (ws : List Word) : CellsKept s (t.complete ws) := h.finish _ ws

theorem refuse (s : State) (r : ResultCode) : CellsKept s (s.refuse r) := (refl s).finish r []

theorem refuse_or {p : Prop} [Decidable p] {r : ResultCode} (h : ¬ p → CellsKept s t) :
    CellsKept s (if p then s.refuse r else t) := by
  split
  · exact refuse s r
  · next hp => exact h hp

end CellsKept

end Sys2Proof.Machine

/-! ## What moves no cell to a queue or a hold list, and none from there -/

namespace Sys2Proof.Machine

open Sys2Proof.Safety

/-! ### Events W and M, and marks (R58, R59, R65, R153) -/

theorem sameWork_notify (s : State) (b : StoreBand) (first count : Nat) : SameWork s (s.notify b first count) := by
  refine .of_cells (fun u w => ?_) rfl rfl
  rw [State.cell_notify]
  split
  · exact (s.cell u w).sameStanding_change
  · exact .refl _

theorem sameWork_sweepBand (s : State) (v : WallBand) : SameWork s (s.sweepBand v) := by
  refine .of_cells (fun u w => ?_) rfl rfl
  rw [State.cell_sweepBand]
  split
  · exact (s.cell u w).sameStanding_change
  · exact .refl _

theorem sameWork_clearMarks (s : State) : SameWork s s.clearMarks := by
  refine .of_cells (fun u w => ?_) rfl rfl
  rw [State.cell_clearMarks]
  exact (s.cell u w).sameStanding_unmarked

/-- A cut marks cells of ACTIVE tiles only (R153). -/
theorem sameWork_setMarks {s : State} {S : TileSet} (active : ∀ t, TileSet.has S t = true → (s.tile t).isActive = true) :
    SameWork s (s.setMarks S) := by
  have cell := s.cell_setMarks S
  have state : ∀ u w, ((s.setMarks S).cell u w).state = (s.cell u w).state := fun u w => by
    rw [cell]
    split <;> rfl
  have link : ∀ k, (s.setMarks S).link k = s.link k := s.link_mapCells _
  refine ⟨⟨s.tile_mapCells _, fun k u w => by rw [link], fun u w => by rw [state], fun u w => by rw [state],
    fun u w free stale => ?_⟩, fun k => by rw [link]⟩
  rw [cell, if_neg, stale]
  intro marks
  simp only [State.marksAtCut, Bool.and_eq_true] at marks
  simp [State.inUse, active u marks.1.1, marks.1.2] at free

/-! ### Presents and queries (R49 to R52, R154 to R158) -/

theorem sameWork_setPresent (s : State) (p : PresentRecord) : SameWork s { s with present := p } := .of_eq rfl rfl rfl

theorem sameWork_endPresent (s : State) (o : PresentOutcome) (t : Option TileIdx) : SameWork s (s.endPresent o t) := by
  have cleared : SameWork s (if s.present.state = .collecting then s.clearMarks else s) := by
    split
    · exact sameWork_clearMarks s
    · exact .refl s
  exact cleared.trans (.of_eq rfl rfl rfl)

/-- A SHOW entry is no CELL entry, wherever it joins (R79, R80). -/
theorem LinkSlice.count_appendShow (l : LinkSlice) (t u : TileIdx) (n : Byte) (w : WallBand) :
    (l.appendShow (.showTile t n)).queue.count (.cell u w) = l.queue.count (.cell u w) := by
  unfold LinkSlice.appendShow
  split
  · simp [LinkSlice.enqueue, List.count_append]
  · rfl

theorem LinkSlice.hold_appendShow (l : LinkSlice) (e : Entry) : (l.appendShow e).hold = l.hold := by
  unfold LinkSlice.appendShow
  split <;> rfl

theorem sameWork_appendShows (s : State) : SameWork s s.appendShows :=
  .foldl (fun s t => .setLink s (LinkSlice.count_appendShow _ t · _ ·) (LinkSlice.hold_appendShow _ _)) _ s

theorem sameWork_enterShowing (s : State) : SameWork s s.enterShowing :=
  (sameWork_setPresent s _).trans (sameWork_appendShows _)

theorem sameWork_reportClearedMark (s : State) : SameWork s s.reportClearedMark := by
  simp only [State.reportClearedMark]
  split
  · split
    · exact (sameWork_setPresent s _).trans (sameWork_enterShowing _)
    · exact sameWork_setPresent s _
  · exact .refl s

theorem sameWork_reportShow (s : State) (t : TileIdx) (n : Byte) : SameWork s (s.reportShow t n) := by
  simp only [State.reportShow]
  split
  · split
    · exact (sameWork_setPresent s _).trans (sameWork_endPresent _ _ _)
    · exact sameWork_setPresent s _
  · exact .refl s

theorem sameWork_cut (s : State) : SameWork s s.cut := by
  have marked : SameWork s (s.setMarks (TileSet.of fun t => (s.tile t).isActive)) :=
    sameWork_setMarks fun t has => by rwa [TileSet.has_of] at has
  simp only [State.cut]
  split
  · exact (marked.trans (sameWork_setPresent _ _)).trans (sameWork_enterShowing _)
  · exact marked.trans (sameWork_setPresent _ _)

theorem sameWork_startQuery (s : State) (t : TileIdx) : SameWork s (s.startQuery t) :=
  .of_setLink (k := (s.tile t).link) rfl rfl rfl (fun v w => by simp [LinkSlice.enqueue]) rfl

/-! ### The window side and the sweep (R10, R12, R15, R17, R34) -/

theorem sameWork_land (s : State) (v : Word) : SameWork s (s.land v) := by
  rw [State.land_eq]
  exact (sameWork_notify s (bandOfRow s.window.y) s.window.x.val 1).trans (.of_eq rfl rfl rfl)

theorem sameWork_endFillRow (s : State) : SameWork s s.endFillRow := by
  rw [State.endFillRow_eq]
  cases lastRowInBand s.fill.row s.fill.rect.y1.val with
  | true =>
    exact (sameWork_notify s (bandOfRow (Fin.ofNat 512 s.fill.row)) s.fill.rect.x0.val
      (s.fill.rect.x1.val - s.fill.rect.x0.val + 1)).trans (.of_eq rfl rfl rfl)
  | false => exact .of_eq rfl rfl rfl

theorem sameWork_runHeld (held : List HeldOp) (s : State) : SameWork s (State.runHeld held s) := by
  induction held generalizing s with
  | nil => exact .of_eq rfl rfl rfl
  | cons op rest ih =>
    cases op with
    | pixelRead =>
      simp only [State.runHeld, State.readLatch_eq]
      split
      · exact .after (ih _) rfl rfl rfl
      · exact .of_eq rfl rfl rfl
    | setMode o m => exact .after (ih _) rfl rfl rfl
    | pixelWrite _ => exact .of_eq rfl rfl rfl
    | setWindow _ => exact .of_eq rfl rfl rfl
    | setPointer _ _ => exact .of_eq rfl rfl rfl
    | fillStart => exact .of_eq rfl rfl rfl

theorem sameWork_takeWindowOp (s : State) (op : HeldOp) : SameWork s (s.takeWindowOp op) := by
  simp only [State.takeWindowOp]
  split
  · exact sameWork_runHeld _ s
  · exact .of_eq rfl rfl rfl

theorem sameWork_writePixelData (s : State) (v : Word) : SameWork s (s.writePixelData v) := by
  unfold State.writePixelData
  split
  · exact .of_eq rfl rfl rfl
  · exact .after (sameWork_takeWindowOp _ _) rfl rfl rfl

theorem sameWork_readPixelData (s : State) : SameWork s s.readPixelData := by
  unfold State.readPixelData
  split
  · exact .of_eq rfl rfl rfl
  · exact .after (sameWork_takeWindowOp _ _) rfl rfl rfl

theorem sameWork_endLoad (s : State) (cause : LoadCause) : SameWork s (s.endLoad cause) := by
  rw [State.endLoad_eq]
  refine .after (sameWork_runHeld _ _) ?_ ?_ ?_
  all_goals cases cause <;> rfl

theorem sameWork_sweepPass (s : State) : SameWork s s.sweepPass := by
  unfold State.sweepPass
  split
  · next w rest _ =>
    have swept := sameWork_sweepBand s w
    simp only []
    generalize s.sweepBand w = u at swept
    split <;> exact swept.trans (.of_eq rfl rfl rfl)
  · exact .refl s

theorem sameWork_mapCommand (s : State) (m : BandMap) : SameWork s (s.mapCommand m) := by
  unfold State.mapCommand
  split <;> exact .of_eq rfl rfl rfl

theorem sameWork_hostAccess (s : State) : SameWork s s.hostAccess :=
  .of_eq s.cells_hostAccess s.tiles_hostAccess s.links_hostAccess

/-! ### Transmitters, capture engines, attempts and replays (R92, R97, R115 to R118, R125, R126) -/

section Links

variable (s : State) (k : Link)

/-- A transmitter changes alone. -/
theorem SameWork.updateTx {f : LinkSlice → LinkSlice} (h : ∀ l, ∃ tx, f l = { l with tx := tx }) :
    SameWork s (s.updateLink k f) := by
  obtain ⟨tx, e⟩ := h (s.link k)
  exact .updateLink s (by rw [e]) (by rw [e])

theorem LinkSlice.beginAttempt_eq (l : LinkSlice) (time : Nat) : ∃ tx, l.beginAttempt time =
    { l with state := .training, partnerHeard := false, attemptTimer := some time, helloInterval := true, tx := tx } :=
  LinkSlice.handHello_eq _

theorem sameWork_beginAttempt : SameWork s (s.beginAttempt k) := by
  obtain ⟨tx, e⟩ := (s.link k).beginAttempt_eq s.timers.attemptTime
  exact .updateLink s (by rw [e]) (by rw [e])

theorem sameWork_freshAttempt : SameWork s (s.freshAttempt k) :=
  (SameWork.updateLink s rfl rfl).trans (sameWork_beginAttempt _ k)

theorem sameWork_attemptTimedOut : SameWork s (s.attemptTimedOut k) := by
  simp only [State.attemptTimedOut]
  generalize counted : s.updateLink k (fun l => { l with attemptCount := (s.link k).attemptCount + 1 }) = u
  have same : SameWork s u := counted ▸ .updateLink s rfl rfl
  split
  · exact (same.trans (.updateLink u rfl rfl)).attend _
  · exact same.trans (sameWork_beginAttempt u k)

theorem sameWork_giveUpReRead : SameWork s (s.giveUpReRead k) := by
  obtain ⟨a, e⟩ := s.giveUpReRead_eq k
  rw [e]
  exact .of_setLink (k := k) rfl rfl rfl (fun _ _ => rfl) rfl

theorem sameWork_freeEngine : SameWork s (s.freeEngine k) := (SameWork.updateLink s rfl rfl).releaseGrant

theorem sameWork_askCapture (t : TileIdx) (w : WallBand) (b : StoreBand) : SameWork s (s.askCapture k t w b) :=
  (SameWork.updateLink s rfl rfl).request _

theorem sameWork_beginReplay (q : SeqNo) : SameWork s (s.beginReplay k q) :=
  (sameWork_giveUpReRead s k).trans (.updateLink _ rfl rfl)

theorem sameWork_retransmit : SameWork s (s.retransmit k) := by
  unfold State.retransmit
  split
  · exact .refl s
  · split
    · exact (SameWork.updateLink s rfl rfl).request _
    all_goals exact .updateLink s rfl rfl

theorem sameWork_endReRead : SameWork s (s.endReRead k) := by
  unfold State.endReRead
  split
  · split
    · exact (SameWork.updateLink s rfl rfl).trans (sameWork_freeEngine _ k)
    · exact sameWork_freeEngine s k
  · exact sameWork_freeEngine s k
  all_goals exact .refl s

/-! ### Notices (R102, R108, R142 to R146) -/

theorem sameWork_restartSilence : SameWork s (s.restartSilence k) := .updateLink s rfl rfl

theorem sameWork_badNotice : SameWork s (s.badNotice k) := by
  unfold State.badNotice
  split
  · exact .updateLink s rfl rfl
  · exact .updateLink s rfl rfl
  all_goals exact .refl s

theorem sameWork_takeReport (p : Position) (tag : Byte) (capacity : Nibble) (shown : Byte) (restart : Nibble)
    (word : BitVec 32) : SameWork s (s.takeReport k p tag capacity shown restart word) := by
  unfold State.takeReport
  split
  · exact .of_eq rfl rfl rfl
  · exact .updateLink s rfl rfl

end Links

end Sys2Proof.Machine

/-! ## Tiles that become ACTIVE or leave it: their cells, entries and records (R40, R41, R44, R47) -/

namespace Sys2Proof.Machine

open Sys2Proof.Safety

/-- The rule of one cell goes to a state in which its tile, its cell's standing, its entries and its live records are the same. -/
theorem CellRule.of_same {s t : State} {held held' : Link → List HoldRecord} {u : TileIdx} {w : WallBand}
    (h : CellRule s held u w) (tile : t.tile u = s.tile u) (cell : (s.cell u w).SameStanding (t.cell u w))
    (entries : s.inUse u w = true → (t.link (s.tile u).link).queue.count (.cell u w) =
      (s.link (s.tile u).link).queue.count (.cell u w))
    (records : s.inUse u w = true → (held' (s.tile u).link).countP (liveRecordOf u w) =
      (held (s.tile u).link).countP (liveRecordOf u w)) : CellRule t held' u w := by
  have inUse : t.inUse u w = s.inUse u w := by rw [State.inUse, State.inUse, tile]
  refine ⟨fun free => ?_, fun used => ?_, fun used => ?_⟩
  · exact cell.stale (h.outside (inUse ▸ free))
  · rw [inUse] at used
    rw [tile, cell.queued, entries used, h.entries used]
  · rw [inUse] at used
    rw [tile, cell.inFlight, records used, h.records used]

/-- A STALE and unmarked cell without an entry and without a live record meets its rule. -/
theorem CellRule.of_free {s : State} {held : Link → List HoldRecord} {u : TileIdx} {w : WallBand}
    (cell : s.cell u w = ⟨.stale, false⟩) (entries : ∀ k, Entry.cell u w ∉ (s.link k).queue)
    (records : ∀ k, ∀ r ∈ held k, r.orphan = false → r.tile ≠ u) : CellRule s held u w where
  outside _ := cell
  entries _ := by rw [cell, List.count_eq_zero_of_not_mem (entries _)]; rfl
  records _ := by
    rw [cell]
    refine List.countP_eq_zero.mpr fun r hr live => ?_
    obtain ⟨notOrphan, named, -⟩ := (liveRecordOf_iff u w r).mp live
    exact records _ r hr notOrphan named

section Placed

variable {s : State}

/-- A CELL entry names a cell of an ACTIVE tile on its link (R77). -/
theorem inUse_of_entry (hl : LinksSound s) (hs : CellsSound s) {k : Link} {u : TileIdx} {w : WallBand}
    (he : Entry.cell u w ∈ (s.link k).queue) : s.inUse u w = true ∧ (s.tile u).link = k := by
  obtain ⟨-, -, names, -⟩ := hl
  obtain ⟨-, -, -, entries⟩ := hs
  obtain ⟨active, on⟩ := names k _ (List.mem_append_left _ he)
  exact ⟨Bool.and_eq_true_iff.mpr ⟨active, entries k u w he⟩, on⟩

/-- A CELL entry names an ACTIVE tile (R77). -/
theorem active_of_entry (hl : LinksSound s) {k : Link} {u : TileIdx} {w : WallBand}
    (he : Entry.cell u w ∈ (s.link k).queue) : (s.tile u).isActive = true :=
  (hl.2.2.1 k _ (List.mem_append_left _ he)).1

end Placed

/-! ### Tiles that become ACTIVE, and records of other tiles -/

/-- Tiles that are not ACTIVE take other records, ACTIVE ones too: their cells have no work yet, and no work moves (R40, R42, R43). -/
theorem cellsSound_of_tiles {s t : State} (hl : LinksSound s) (hs : CellsSound s)
    (tiles : ∀ u, (s.tile u).isActive = true → t.tile u = s.tile u) (cells : t.cells = s.cells)
    (queue : ∀ k, (t.link k).queue = (s.link k).queue) (hold : ∀ k, (t.link k).hold = (s.link k).hold) : CellsSound t := by
  have cell : ∀ u w, t.cell u w = s.cell u w := fun u w => by simp only [State.cell, cells]
  rw [cellsSound_iff] at hs ⊢
  have placed : ∀ k, ∀ r ∈ (t.link k).hold, r.orphan = false → RecordPlaced s k r := fun k r hr =>
    hs.records k r (hold k ▸ hr)
  have named : ∀ {k u w}, Entry.cell u w ∈ (t.link k).queue → (s.tile u).isActive = true := fun {k u w} he =>
    active_of_entry hl (queue k ▸ he)
  refine ⟨fun u w => ?_, fun k r hr live => ?_, fun k u w he => ?_⟩
  · by_cases active : (s.tile u).isActive = true
    · exact (hs.cells u w).of_same (tiles u active) (cell u w ▸ .refl _) (fun _ => by rw [queue]) fun _ => by rw [hold]
    · have free : s.inUse u w = false := by simp [State.inUse, active]
      refine .of_free ?_ (fun k he => active (named he)) fun k r hr live same => ?_
      · rw [cell, (hs.cells u w).outside free]
      · obtain ⟨named, -⟩ := placed k r hr live
        exact active (same ▸ named)
  · have before := placed k r hr live
    rwa [RecordPlaced, ← tiles r.tile before.1] at before
  · rw [tiles u (named he)]
    exact hs.entries k u w (queue k ▸ he)

theorem cellsKept_setTile {s : State} {v : TileIdx} {r : TileRecord} (off : (s.tile v).isActive = false) :
    CellsKept s (s.setTile v r) := fun hl hs =>
  cellsSound_of_tiles hl hs (fun u active => by
    rw [State.tile_setTile, if_neg]
    rintro rfl
    simp [off] at active) rfl (fun _ => rfl) fun _ => rfl

/-- A link in TRAINING comes UP: its tiles were not ACTIVE (R39, R40). -/
theorem cellsKept_enterUp {s : State} {k : Link} {n : BitVec 3} {capacity restart : Vector Nibble 4}
    (down : (s.link k).state ≠ .up) : CellsKept s (s.enterUp k n capacity restart) := by
  intro hl hs
  obtain ⟨tx, hello⟩ := LinkSlice.handHello_eq ((s.link k).enterUp s.timers.silenceTimeout n capacity restart)
  have link : ∀ j, ((s.enterUp k n capacity restart).link j).queue = (s.link j).queue ∧
      ((s.enterUp k n capacity restart).link j).hold = (s.link j).hold := fun j => by
    rw [State.link_enterUp, hello]
    split
    · next same => exact same ▸ ⟨rfl, rfl⟩
    · exact ⟨rfl, rfl⟩
  refine cellsSound_of_tiles hl hs (fun u active => ?_) ?_ (fun j => (link j).1) fun j => (link j).2
  · rw [State.tile_enterUp, if_neg]
    intro joins
    simp only [State.joins, Bool.and_eq_true, beq_iff_eq] at joins
    exact down (joins.1.2 ▸ up_of_isActive hl active)
  · obtain ⟨x, a, e⟩ := State.joinTiles_frame k (List.finRange 16)
      ((s.updateLink k (·.enterUp s.timers.silenceTimeout n capacity restart)).attend (.linkUp k))
    simp only [State.enterUp, e]
    rfl

/-! ### Tiles that leave ACTIVE -/

/-- Tiles leave ACTIVE, with their entries and their live records; those of the other tiles stay (R41, R44, R63). -/
theorem cellsSound_of_departed {s t : State} {a : Attention} {ts : List TileIdx} {es : List Entry} (hs : CellsSound s)
    (departed : Departed s t a ts es) (removed : ∀ u w, Entry.cell u w ∈ es → u ∈ ts)
    (tiles : ∀ u, u ∉ ts → t.tile u = s.tile u)
    (entries : ∀ u, u ∉ ts → (s.tile u).isActive = true → ∀ w, (t.link (s.tile u).link).queue.count (.cell u w) =
      (s.link (s.tile u).link).queue.count (.cell u w))
    (records : ∀ u, u ∉ ts → (s.tile u).isActive = true → ∀ w, (t.link (s.tile u).link).hold.countP (liveRecordOf u w) =
      (s.link (s.tile u).link).hold.countP (liveRecordOf u w))
    (queued : ∀ k u w, Entry.cell u w ∈ (t.link k).queue → u ∉ ts ∧ Entry.cell u w ∈ (s.link k).queue)
    (held : ∀ k, ∀ r ∈ (t.link k).hold, r.orphan = false → r.tile ∉ ts ∧ r ∈ (s.link k).hold) : CellsSound t := by
  obtain ⟨-, -, gone, stays, -⟩ := departed
  rw [cellsSound_iff] at hs ⊢
  refine ⟨fun u w => ?_, fun k r hr live => ?_, fun k u w he => ?_⟩
  · by_cases left : u ∈ ts
    · refine .of_free ?_ (fun k he => (queued k u w he).1 left) fun k r hr live same => (held k r hr live).1 (same ▸ left)
      by_cases band : (s.tile u).hasBand w = true
      · exact gone u w (.inl ⟨left, band⟩)
      · by_cases listed : Entry.cell u w ∈ es
        · exact gone u w (.inr listed)
        · have free : s.inUse u w = false := by simp [State.inUse, band]
          have cell := stays u w (by tauto)
          rw [(hs.cells u w).outside free, ite_self] at cell
          exact cell
    · have cell := stays u w fun lost => left (lost.elim And.left (removed u w))
      refine (hs.cells u w).of_same (tiles u left) ?_ (fun used => ?_) fun used => ?_
      · rw [cell]
        split
        · exact (s.cell u w).sameStanding_unmarked
        · exact .refl _
      · exact entries u left (Bool.and_eq_true_iff.mp used).1 w
      · exact records u left (Bool.and_eq_true_iff.mp used).1 w
  · obtain ⟨stay, before⟩ := held k r hr live
    have placed := hs.records k r before live
    rwa [RecordPlaced, ← tiles r.tile stay] at placed
  · obtain ⟨stay, before⟩ := queued k u w he
    rw [tiles u stay]
    exact hs.entries k u w before

/-- A loss: the ACTIVE tiles of the link leave, and its queue and hold list are empty (R131). -/
theorem cellsKept_loseLink (s : State) (k : Link) (reason : LossReason) (off : Bool) :
    CellsKept s (s.loseLink k reason off) := by
  intro hl hs
  have link : ∀ j, ((s.loseLink k reason off).link j).queue = (if j = k then [] else (s.link j).queue) ∧
      ((s.loseLink k reason off).link j).hold = (if j = k then [] else (s.link j).hold) := fun j => by
    rw [State.link_loseLink]
    by_cases lost : j = k
    · simp only [if_pos lost]
      split
      · exact ⟨rfl, rfl⟩
      · obtain ⟨tx, e⟩ := LinkSlice.beginAttempt_eq
          (LinkSlice.dropUp { s.link k with engine := stoppedEngine (s.holds (.capture k)) (s.link k).engine })
          s.timers.attemptTime
        rw [e]
        exact ⟨rfl, rfl⟩
    · simp only [if_neg lost, and_self]
  have own : ∀ u, u ∉ s.activeTiles k → (s.tile u).isActive = true → (s.tile u).link ≠ k := fun u stays active on =>
    stays (mem_activeTiles.mpr ⟨active, on⟩)
  refine cellsSound_of_departed hs (departed_loseLink s k reason off) (fun u w he => ?_) (fun u stays => ?_)
    (fun u stays active w => ?_) (fun u stays active w => ?_) (fun j u w he => ?_) fun j r hr live => ?_
  · exact mem_activeTiles.mpr (hl.2.2.1 k _ he)
  · rw [State.tile_loseLink, if_neg stays]
  · rw [(link _).1, if_neg (own u stays active)]
  · rw [(link _).2, if_neg (own u stays active)]
  · rw [(link j).1] at he
    split at he
    · cases he
    · next other => exact ⟨fun left => other ((inUse_of_entry hl hs he).2.symm.trans (mem_activeTiles.mp left).2), he⟩
  · rw [(link j).2] at hr
    split at hr
    · cases hr
    · next other =>
      obtain ⟨-, on, -⟩ := hs.2.2.1 j r hr live
      exact ⟨fun left => other (on.symm.trans (mem_activeTiles.mp left).2), hr⟩

/-- The records of a tile that TILE DISABLE makes orphans are live records no more; those of the others are as they were (R44). -/
theorem liveRecordOf_orphaned {t u : TileIdx} (other : u ≠ t) (w : WallBand) (r : HoldRecord) :
    liveRecordOf u w (if r.tile = t then { r with orphan := true } else r) = liveRecordOf u w r := by
  split
  · next own =>
    have named : r.tile ≠ u := fun same => other (same.symm.trans own)
    simp [liveRecordOf, named]
  · rfl

/-- The backlog holds no CELL entry (R80), so that a refill brings none. -/
theorem LinkRules.cell_notMem_backlog {l : LinkSlice} (h : LinkRules l) (u : TileIdx) (w : WallBand) :
    Entry.cell u w ∉ l.backlog := fun he => by
  obtain ⟨t, n, show_⟩ := h.queue.shows _ he
  cases show_

/-- TILE DISABLE takes the tile's CELL entries from its link's queue and no others (R44, R81). -/
theorem LinkRules.count_removeTile {l : LinkSlice} (h : LinkRules l) {t u : TileIdx} (other : u ≠ t) (w : WallBand) :
    ((l.removeTile t).orphanTile t).queue.count (.cell u w) = l.queue.count (.cell u w) := by
  have none : Entry.cell u w ∉ (l.backlog.filter fun e => e.tile != t).take (Config.queueDepth -
      (l.queue.filter fun e => e.tile != t).length) := fun he =>
    h.cell_notMem_backlog u w (List.mem_of_mem_filter (List.mem_of_mem_take he))
  simp only [LinkSlice.orphanTile, LinkSlice.removeTile, LinkSlice.refill, List.count_append,
    List.count_eq_zero_of_not_mem none, Nat.add_zero]
  exact List.count_filter (by simpa [Entry.tile] using other)

theorem cellsKept_disableTile (s : State) (t : TileIdx) : CellsKept s (s.disableTile t) := by
  by_cases active : (s.tile t).isActive = true
  · intro hl hs
    have departed := departed_disableTile active
    obtain ⟨x, p, q, a, n, e⟩ := State.disableTile_active_frame active
    have link : ∀ j, (s.disableTile t).link j = (s.withoutTile t).link j := fun j => by rw [e]; rfl
    have tile : ∀ u, (s.disableTile t).tile u = _ := fun u => (by rw [e]; rfl : _ = (s.withoutTile t).tile u).trans
      (State.tile_withoutTile s t u)
    generalize s.disableTile t = v at departed link tile
    have queue : ∀ j u w, u ≠ t → (v.link j).queue.count (.cell u w) = (s.link j).queue.count (.cell u w) := fun j u w other => by
      rw [link, State.link_withoutTile]
      split
      · next same =>
        have rules := linkRules_of_linksSound hl j
        rw [same] at rules ⊢
        exact rules.count_removeTile other w
      · rfl
    have hold : ∀ j, (v.link j).hold = if j = (s.tile t).link then
        (s.link j).hold.map fun h => if h.tile = t then { h with orphan := true } else h else (s.link j).hold := fun j => by
      rw [link, State.link_withoutTile]
      split
      · next same => rw [LinkSlice.hold_removeTile, same]
      · rfl
    refine cellsSound_of_departed hs departed (fun u w he => ?_) (fun u stays => ?_)
      (fun u stays _ w => queue _ u w (by simpa using stays)) (fun u stays active w => ?_) (fun j u w he => ?_)
      fun j r hr live => ?_
    · simpa [LinkSlice.entriesOf, Entry.tile] using (List.mem_filter.mp he).2
    · rw [tile, if_neg (by simpa using stays)]
    · rw [hold]
      split
      · rw [List.countP_map]
        exact List.countP_congr fun r _ => by rw [Function.comp, liveRecordOf_orphaned (by simpa using stays)]
      · rfl
    · rw [link] at he
      obtain ⟨before, other⟩ := mem_of_mem_withoutTile hl (List.mem_append_left _ he)
      exact ⟨by simpa [Entry.tile] using other, (List.mem_append.mp before).resolve_right
        ((linkRules_of_linksSound hl j).cell_notMem_backlog u w)⟩
    · rw [hold] at hr
      split at hr
      · obtain ⟨r', hr', rfl⟩ := List.mem_map.mp hr
        split at live
        · cases live
        · next other =>
          rw [if_neg other]
          exact ⟨by simpa using other, hr'⟩
      · next other =>
        obtain ⟨-, on, -⟩ := hs.2.2.1 j r hr live
        refine ⟨fun left => other ?_, hr⟩
        rw [← on, List.mem_singleton.mp left]
  · rw [State.disableTile, if_neg active]
    exact cellsKept_setTile (by simpa using active)

end Sys2Proof.Machine

/-! ## Cells that are queued, captured and acknowledged, and the resets (R47, R60 to R62, R85 to R90, R120) -/

namespace Sys2Proof.Machine

open Sys2Proof.Safety

/-! ### Queued by the Walker (R60, R71) -/

/-- A STALE cell of an ACTIVE tile joins its link's queue (R71). -/
theorem cellsKept_queueCell {s : State} {t : TileIdx} {w : WallBand} (used : s.inUse t w = true)
    (stale : (s.cell t w).state = .stale) :
    CellsKept s ((s.updateLink (s.tile t).link (·.enqueue (.cell t w))).queueCell t w) := by
  intro hl hs
  obtain ⟨active, band⟩ := Bool.and_eq_true_iff.mp used
  have cell : ∀ u v, ((s.updateLink (s.tile t).link (·.enqueue (.cell t w))).queueCell t w).cell u v =
      if u = t ∧ v = w then { s.cell t w with state := .queued } else s.cell u v := fun u v => by
    rw [State.cell_queueCell, State.cell_updateLink, State.cell_updateLink, stale]
    rfl
  have link : ∀ j, ((s.updateLink (s.tile t).link (·.enqueue (.cell t w))).queueCell t w).link j =
      if j = (s.tile t).link then (s.link (s.tile t).link).enqueue (.cell t w) else s.link j := fun j =>
    s.link_updateLink (s.tile t).link j (·.enqueue (.cell t w))
  have tile : ∀ u, ((s.updateLink (s.tile t).link (·.enqueue (.cell t w))).queueCell t w).tile u = s.tile u := fun _ => rfl
  generalize (s.updateLink (s.tile t).link (·.enqueue (.cell t w))).queueCell t w = v at cell link tile
  have hold : ∀ j, (v.link j).hold = (s.link j).hold := fun j => by
    rw [link]
    split
    · next same => rw [same]; rfl
    · rfl
  rw [cellsSound_iff] at hs ⊢
  refine ⟨fun u b => ?_, fun k r hr live => ?_, fun k u b he => ?_⟩
  · by_cases here : u = t ∧ b = w
    · obtain ⟨rfl, rfl⟩ := here
      obtain ⟨-, entries, records⟩ := hs.cells u b
      have inUse : v.inUse u b = s.inUse u b := by rw [State.inUse, State.inUse, tile]
      refine ⟨fun free => ?_, fun _ => ?_, fun _ => ?_⟩
      · rw [inUse, used] at free
        cases free
      · rw [tile, link, if_pos rfl, cell, if_pos ⟨rfl, rfl⟩]
        have before := entries used
        rw [stale] at before
        simp [LinkSlice.enqueue, before]
      · rw [tile, cell, if_pos ⟨rfl, rfl⟩, hold, records used, stale]
        rfl
    · refine (hs.cells u b).of_same (tile u) (by rw [cell, if_neg here]; exact .refl _) (fun _ => ?_) fun _ => by rw [hold]
      rw [link]
      split
      · next same =>
        have other : Entry.cell t w ≠ .cell u b := fun e => here (by cases e; exact ⟨rfl, rfl⟩)
        rw [same]
        simp [LinkSlice.enqueue, other]
      · rfl
  · rw [hold] at hr
    have placed := hs.records k r hr live
    rwa [RecordPlaced, ← tile] at placed
  · rw [tile]
    rw [link] at he
    split at he
    · next same =>
      rcases List.mem_append.mp he with old | new
      · exact hs.entries _ u b old
      · cases List.mem_singleton.mp new
        exact band
    · exact hs.entries k u b he

theorem cellsKept_examine (s : State) : CellsKept s s.examine := by
  simp only [State.examine]
  split
  · next queues =>
    simp only [State.walkerQueues, Bool.and_eq_true, beq_iff_eq] at queues
    obtain ⟨⟨⟨⟨band, stale⟩, active⟩, -⟩, -⟩ := queues
    exact .after (cellsKept_queueCell (s := { s with walker := s.walker.next })
      (Bool.and_eq_true_iff.mpr ⟨active, band⟩) stale) rfl rfl rfl rfl
  · exact (SameWork.of_eq rfl rfl rfl).cellsKept

/-! ### Captured and sent (R61, R85 to R90) -/

/-- The wall band of a CELL entry, if it is one. -/
def Entry.band : Entry → Option WallBand
  | .cell _ w => some w
  | .showTile _ _ => none
  | .query _ _ => none

section Completed

variable {s : State} {k : Link} {e : Entry} {body : HoldBody} {payload : List Word}

/-- The completion of a CELL dispatch captures its cell, and no other completion a cell (R61, R90). -/
theorem State.cell_completeDispatch (s : State) (k : Link) (e : Entry) (body : HoldBody) (payload : List Word) (u : TileIdx)
    (w : WallBand) : (s.completeDispatch k e body payload).cell u w =
      if e = .cell u w then { s.cell u w with state := (s.cell u w).state.onCapture } else s.cell u w := by
  cases e with
  | cell t v =>
    obtain ⟨l, captured⟩ : ∃ l, s.completeDispatch k (.cell t v) body payload = (s.setLink k l).captureCell t v := ⟨_, rfl⟩
    rw [captured, State.cell_captureCell, State.cell_setLink, State.cell_setLink]
    by_cases here : u = t ∧ w = v
    · obtain ⟨rfl, rfl⟩ := here
      simp
    · rw [if_neg here, if_neg]
      rintro ⟨⟩
      exact here ⟨rfl, rfl⟩
  | showTile t n => rfl
  | query t g => rfl

theorem State.link_completeDispatch (s : State) (k : Link) (e : Entry) (body : HoldBody) (payload : List Word) (j : Link) :
    (s.completeDispatch k e body payload).link j = if j = k then completedLink s k e body payload else s.link j := by
  obtain ⟨x, eq⟩ := s.completeDispatch_eq k e body payload
  rw [eq]
  exact s.link_setLink k j _

theorem State.tile_completeDispatch (s : State) (k : Link) (e : Entry) (body : HoldBody) (payload : List Word) (u : TileIdx) :
    (s.completeDispatch k e body payload).tile u = s.tile u := by
  obtain ⟨x, eq⟩ := s.completeDispatch_eq k e body payload
  rw [eq]
  rfl

/-- The new record is a live record of the cell of its entry, and of no other. -/
theorem liveRecordOf_dispatched (kind : bodyBand body = e.band) (q : SeqNo) (p : Position) (u : TileIdx) (w : WallBand) :
    liveRecordOf u w ⟨q, e.tile, p, false, body⟩ = (e == .cell u w) := by
  rw [Bool.eq_iff_iff, liveRecordOf_iff, beq_iff_eq, kind]
  cases e <;> simp [Entry.tile, Entry.band]

theorem countP_completedLink (kind : bodyBand body = e.band) (u : TileIdx) (w : WallBand) :
    (completedLink s k e body payload).hold.countP (liveRecordOf u w) =
      (s.link k).hold.countP (liveRecordOf u w) + if e = .cell u w then 1 else 0 := by
  simp [completedLink, liveRecordOf_dispatched kind]

/-- The entry has left the queue, and the backlog brings no CELL entry (R81, R90). -/
theorem count_completedLink (rules : LinkRules (s.link k)) (u : TileIdx) (w : WallBand) :
    (completedLink s k e body payload).queue.count (.cell u w) =
      (s.link k).queue.count (.cell u w) - if e = .cell u w then 1 else 0 := by
  have none : ∀ n, Entry.cell u w ∉ (s.link k).backlog.take n := fun n he =>
    rules.cell_notMem_backlog u w (List.mem_of_mem_take he)
  simp only [completedLink, List.count_append, List.count_eq_zero_of_not_mem (none _), Nat.add_zero, List.count_erase, beq_iff_eq]

/-- A dispatch of a queued entry completes: its cell, if it has one, is in flight with its record (R61, R90). -/
theorem cellsKept_completeDispatch (kind : bodyBand body = e.band) (inQueue : e ∈ (s.link k).queue) :
    CellsKept s (s.completeDispatch k e body payload) := by
  intro hl hs
  have rules := linkRules_of_linksSound hl k
  have cell := s.cell_completeDispatch k e body payload
  have link := s.link_completeDispatch k e body payload
  have tile := s.tile_completeDispatch k e body payload
  have used : ∀ {u w}, e = .cell u w → s.inUse u w = true ∧ (s.tile u).link = k := fun h =>
    inUse_of_entry hl hs (h ▸ inQueue)
  obtain ⟨active, on⟩ := hl.2.2.1 k e (List.mem_append_left _ inQueue)
  generalize s.completeDispatch k e body payload = v at cell link tile
  rw [cellsSound_iff] at hs ⊢
  refine ⟨fun u w => ?_, fun j r hr live => ?_, fun j u w he => ?_⟩
  · by_cases here : e = .cell u w
    · obtain ⟨inUse, there⟩ := used here
      obtain ⟨-, entries, records⟩ := hs.cells u w
      have many := entries inUse
      have flying := records inUse
      rw [there] at many flying
      have queued : (s.cell u w).state = .queued := by
        have some : 0 < (s.link k).queue.count (.cell u w) := List.count_pos_iff.mpr (here ▸ inQueue)
        by_contra other
        rw [many, beq_eq_false_iff_ne.mpr other] at some
        cases some
      rw [queued] at many flying
      refine ⟨fun free => ?_, fun _ => ?_, fun _ => ?_⟩
      · rw [State.inUse, tile] at free
        exact absurd (inUse.symm.trans free) (by simp)
      · rw [tile, there, link, if_pos rfl, count_completedLink rules, many, cell, if_pos here, if_pos here, queued]
        rfl
      · rw [tile, there, link, if_pos rfl, countP_completedLink kind, flying, cell, if_pos here, if_pos here, queued]
        rfl
    · refine (hs.cells u w).of_same (tile u) (by rw [cell, if_neg here]; exact .refl _) (fun _ => ?_) fun _ => ?_
      · rw [link]
        split
        · next same => rw [count_completedLink rules, if_neg here, same, Nat.sub_zero]
        · rfl
      · rw [link]
        split
        · next same => rw [countP_completedLink kind, if_neg here, same, Nat.add_zero]
        · rfl
  · rw [RecordPlaced, tile]
    rw [link] at hr
    split at hr
    · next same =>
      subst same
      rcases List.mem_append.mp hr with old | new
      · exact hs.records j r old live
      · cases List.mem_singleton.mp new
        refine ⟨active, on, rfl, fun w band => ?_⟩
        rw [kind] at band
        cases e with
        | cell t w' =>
          cases band
          exact (Bool.and_eq_true_iff.mp (used rfl).1).2
        | showTile t n => cases band
        | query t g => cases band
    · exact hs.records j r hr live
  · rw [tile]
    rw [link] at he
    split at he
    · next same =>
      refine hs.entries k u w ?_
      rw [← List.count_pos_iff, count_completedLink rules] at he
      exact List.count_pos_iff.mp (Nat.lt_of_lt_of_le he (Nat.sub_le ..))
    · exact hs.entries j u w he

end Completed

theorem cellsKept_select (s : State) (k : Link) : CellsKept s (s.select k) := by
  unfold State.select
  split
  · split
    · exact .refl s
    · next eligible =>
      split
      · exact cellsKept_completeDispatch rfl (mem_of_oldestEligible eligible)
      · exact (sameWork_askCapture s k _ _ _).cellsKept
    · next eligible => exact cellsKept_completeDispatch rfl (mem_of_oldestEligible eligible)
    · next eligible => exact cellsKept_completeDispatch rfl (mem_of_oldestEligible eligible)
  · exact .refl s

theorem cellsKept_endCapture (s : State) (k : Link) : CellsKept s (s.endCapture k) := by
  intro hl
  unfold State.endCapture
  split
  · next engine =>
    obtain ⟨inQueue, -⟩ := (linkRules_of_linksSound hl k).dispatch _ _ _ engine
    split
    · exact (cellsKept_completeDispatch rfl inQueue).before (.releaseGrant (.refl _)) hl
    · split
      · exact (cellsKept_completeDispatch rfl inQueue).before (.releaseGrant (.refl _)) hl
      · exact ((SameWork.refl s).releaseGrant.trans (sameWork_askCapture _ k _ _ _)).cellsSound
  · exact (sameWork_freeEngine s k).cellsSound
  all_goals exact id

end Sys2Proof.Machine

namespace Sys2Proof.Machine

open Sys2Proof.Safety

/-! ### Acknowledged (R62, R120 to R122) -/

/-- The records still to be released, where link k has `rs` of them. -/
def withRecords (held : Link → List HoldRecord) (k : Link) (rs : List HoldRecord) : Link → List HoldRecord :=
  fun j => if j = k then rs else held j

section Release

variable {s : State} {held : Link → List HoldRecord} {k : Link} {r : HoldRecord} {rs : List HoldRecord}

theorem mem_of_mem_withRecords (first : held k = r :: rs) {j : Link} {r' : HoldRecord} (h : r' ∈ withRecords held k rs j) :
    r' ∈ held j := by
  unfold withRecords at h
  split at h
  · next same =>
    rw [same, first]
    exact List.mem_cons_of_mem _ h
  · exact h

theorem countP_withRecords (first : held k = r :: rs) (j : Link) (u : TileIdx) (w : WallBand) :
    (held j).countP (liveRecordOf u w) =
      (withRecords held k rs j).countP (liveRecordOf u w) + if j = k ∧ liveRecordOf u w r = true then 1 else 0 := by
  unfold withRecords
  by_cases same : j = k
  · rw [same, first, List.countP_cons, if_pos rfl]
    simp
  · simp [same]

/-- A record that is no live record of a cell goes without an effect on the cells (R122). -/
theorem CellRules.drop_record (h : CellRules s held) (first : held k = r :: rs) (noCell : ∀ u w, liveRecordOf u w r = false) :
    CellRules s (withRecords held k rs) where
  cells u w := by
    refine (h.cells u w).of_same rfl (.refl _) (fun _ => rfl) fun _ => ?_
    rw [countP_withRecords first, if_neg fun live => by simp [noCell] at live]
    rfl
  records j r' hr := h.records j r' (mem_of_mem_withRecords first hr)
  entries := h.entries

/-- After A a cell that was in flight is neither QUEUED nor in flight (R62). -/
theorem CellState.onAck_of_inFlight {c : CellState} (h : inFlight c = true) :
    (c.onAck == .queued) = false ∧ inFlight c.onAck = false ∧ (c == .queued) = false := by
  cases c <;> simp_all [inFlight, CellState.onAck]

/-- The one live record of a cell in flight goes, and A reaches its cell (R62, R122). -/
theorem CellRules.ack_record (h : CellRules s held) (first : held k = r :: rs) (live : r.orphan = false) {w : WallBand}
    (band : bodyBand r.body = some w) : CellRules (s.ackCell r.tile w) (withRecords held k rs) := by
  have cell := s.cell_ackCell r.tile (w := w)
  have link : ∀ j, (s.ackCell r.tile w).link j = s.link j := s.link_setCell _ _ _
  have tile : ∀ u, (s.ackCell r.tile w).tile u = s.tile u := s.tile_setCell _ _ _
  obtain ⟨active, on, -, hasBand⟩ := h.records k r (by rw [first]; exact List.mem_cons_self) live
  have used : s.inUse r.tile w = true := Bool.and_eq_true_iff.mpr ⟨active, hasBand w band⟩
  have own : liveRecordOf r.tile w r = true := (liveRecordOf_iff ..).mpr ⟨live, rfl, band⟩
  generalize s.ackCell r.tile w = v at cell link tile
  refine ⟨fun u b => ?_, fun j r' hr notOrphan => ?_, fun j u b he => ?_⟩
  · by_cases here : u = r.tile ∧ b = w
    · obtain ⟨rfl, rfl⟩ := here
      obtain ⟨-, entries, records⟩ := h.cells r.tile b
      have many := entries used
      have flying := records used
      rw [on, countP_withRecords first, if_pos ⟨rfl, own⟩] at flying
      have inFlight : inFlight (s.cell r.tile b).state = true := by
        by_contra other
        rw [Bool.not_eq_true] at other
        rw [other] at flying
        cases flying
      obtain ⟨notQueued, landed, wasNot⟩ := CellState.onAck_of_inFlight inFlight
      rw [wasNot] at many
      rw [inFlight] at flying
      refine ⟨fun free => ?_, fun _ => ?_, fun _ => ?_⟩
      · rw [State.inUse, tile] at free
        exact absurd (used.symm.trans free) (by simp)
      · rw [tile, link, many, cell, if_pos ⟨rfl, rfl⟩, notQueued]
      · rw [tile, on, cell, if_pos ⟨rfl, rfl⟩, landed]
        exact Nat.succ_injective flying
    · refine (h.cells u b).of_same (tile u) (by rw [cell, if_neg here]; exact .refl _) (fun _ => by rw [link]) fun _ => ?_
      rw [countP_withRecords first, if_neg]
      · rfl
      · rintro ⟨-, isLive⟩
        obtain ⟨-, named, there⟩ := (liveRecordOf_iff ..).mp isLive
        exact here ⟨named.symm, Option.some_inj.mp (there.symm.trans band)⟩
  · rw [RecordPlaced, tile]
    exact h.records j r' (mem_of_mem_withRecords first hr) notOrphan
  · rw [tile]
    exact h.entries j u b (link j ▸ he)

/-- One release with its effect (R62, R122). -/
theorem CellRules.releaseEffect (h : CellRules s held) (first : held k = r :: rs) :
    CellRules (s.releaseEffect r) (withRecords held k rs) := by
  have acked : ∀ w, r.orphan = false → bodyBand r.body = some w →
      CellRules (State.releaseEffect.ackCellOf s r w) (withRecords held k rs) := fun w live band => by
    unfold State.releaseEffect.ackCellOf
    split
    · exact (sameWork_reportClearedMark _).toSameCells.cellRules (h.ack_record first live band)
    · exact h.ack_record first live band
  have noCell : r.orphan = true ∨ bodyBand r.body = none → CellRules s (withRecords held k rs) := fun none =>
    h.drop_record first fun u w => by rcases none with none | none <;> simp [liveRecordOf, none]
  unfold State.releaseEffect
  split
  · next orphan => exact noCell (.inl orphan)
  · next live =>
    have live : r.orphan = false := by simpa using live
    split
    · next body => exact acked _ live (by rw [body]; rfl)
    · next body => exact acked _ live (by rw [body]; rfl)
    · next body => exact (sameWork_reportShow s _ _).toSameCells.cellRules (noCell (.inr (by rw [body]; rfl)))
    · next body => exact noCell (.inr (by rw [body]; rfl))

/-- Releases with their effects, oldest first (R122). -/
theorem CellRules.releaseEffects {gone : List HoldRecord} (h : CellRules s held) (first : held k = gone ++ rs) :
    CellRules (gone.foldl State.releaseEffect s) (withRecords held k rs) := by
  induction gone generalizing s held with
  | nil =>
    have same : withRecords held k rs = held := by
      funext j
      unfold withRecords
      split
      · next e => rw [e, first, List.nil_append]
      · rfl
    rwa [same]
  | cons r gone ih =>
    have shadow : withRecords (withRecords held k (gone ++ rs)) k rs = withRecords held k rs := by
      funext j
      unfold withRecords
      split <;> rfl
    rw [← shadow]
    exact ih (h.releaseEffect first) (if_pos rfl)

end Release

/-- The n oldest records go, and their effects follow (R120, R122). -/
theorem cellsKept_releaseRecords (s : State) (k : Link) (n : Nat) : CellsKept s (s.releaseRecords k n) := by
  intro hl hs
  rw [cellsSound_iff] at hs ⊢
  have dropped : SameCells s (s.setLink k ((s.link k).dropRecords n s.timers.replayTimeout)) :=
    { tiles := fun _ => rfl
      entries := fun j u w => by
        rw [State.link_setLink]
        split
        · next same => rw [same]; rfl
        · rfl
      queued := fun _ _ => rfl
      inFlight := fun _ _ => rfl
      outside := fun _ _ _ stale => stale }
  have parts : (s.link k).hold = (s.link k).hold.take n ++ (s.link k).hold.drop n := (List.take_append_drop n _).symm
  have rules := (dropped.cellRules hs).releaseEffects (k := k) parts
  have queued : ShowsQueued (s.setLink k ((s.link k).dropRecords n s.timers.replayTimeout)) (s.releaseRecords k n) :=
    .foldl (fun _ r participants => showsQueued_releaseEffect participants r) _ hl.2.2.2
  have hold : ∀ j, ((s.releaseRecords k n).link j).hold = withRecords (fun j => (s.link j).hold) k ((s.link k).hold.drop n) j :=
    fun j => by
      rw [(queued.links j).kept, State.link_setLink]
      unfold withRecords
      split <;> rfl
  rw [funext hold]
  exact rules

theorem cellsKept_release (s : State) (k : Link) (n : Nat) : CellsKept s (s.release k n) := by
  rcases s.release_cases k n with ⟨-, eq⟩ | ⟨-, -, eq⟩ | ⟨-, eq⟩
  · rw [eq]
    exact .refl s
  · rw [eq]
    exact cellsKept_releaseRecords s k n
  · rw [eq]
    exact (cellsKept_releaseRecords s k n).before ((sameWork_giveUpReRead _ k).trans (.updateLink _ rfl rfl))

/-! ### Replays and notices (R104, R120 to R124, R142 to R146) -/

/-- A counted replay begins, or ends the UP period of the link (R121, R124). -/
theorem cellsKept_countReplay (s : State) (k : Link) (q : SeqNo) : CellsKept s (s.countReplay k q) := by
  have counted : SameWork s (s.updateLink k fun l => { l with replayCount := (s.link k).replayCount + 1 }) := .updateLink s rfl rfl
  have links : LinksKept s (s.updateLink k fun l => { l with replayCount := (s.link k).replayCount + 1 }) :=
    .updateLink (fun rules => { rules with }) (fun _ => rfl) rfl rfl
  simp only [State.countReplay]
  split
  · exact counted.cellsKept.trans links (cellsKept_loseLink _ k _ _)
  · exact (counted.trans (sameWork_beginReplay _ k q)).cellsKept

theorem cellsKept_replayTimedOut (s : State) (k : Link) : CellsKept s (s.replayTimedOut k) := by
  unfold State.replayTimedOut
  split
  · exact cellsKept_countReplay s k _
  · exact .refl s

theorem cellsKept_takeAck (s : State) (k : Link) (q : SeqNo) : CellsKept s (s.takeAck k q) := by
  simp only [State.takeAck]
  split
  · split
    · exact cellsKept_release s k _
    · exact .refl s
  · exact (SameWork.updateLink s rfl rfl).cellsKept

theorem cellsKept_takeNak (s : State) (k : Link) (q : SeqNo) : CellsKept s (s.takeNak k q) := by
  simp only [State.takeNak]
  split
  · split
    · exact (cellsKept_release s k _).trans (fun hl => (linksSound_release hl k _).1) (cellsKept_countReplay _ k q)
    · exact cellsKept_release s k _
  · exact (SameWork.updateLink s rfl rfl).cellsKept

/-- A valid notice that its block takes, the link being UP. -/
theorem cellsKept_notice (s : State) (k : Link) {f : State → State} (hf : ∀ s, CellsKept s (f s)) :
    CellsKept s (s.notice k f) := by
  unfold State.notice
  split
  · next up => exact (sameWork_restartSilence s k).cellsKept.trans (linksKept_restartSilence up) (hf _)
  all_goals exact .refl s

theorem cellsKept_takeHello (s : State) (k : Link) (seen : Bool) (n : BitVec 3) (capacity restart : Vector Nibble 4) :
    CellsKept s (s.takeHello k seen n capacity restart) := by
  unfold State.takeHello
  split
  · split
    · next training =>
      have heard : SameWork s (s.updateLink k fun l => { l with partnerHeard := true }) := .updateLink s rfl rfl
      have links : LinksKept s (s.updateLink k fun l => { l with partnerHeard := true }) :=
        .updateLink (fun rules => { rules with }) (fun _ => rfl) rfl rfl
      simp only []
      split
      · exact heard.cellsKept.trans links (cellsKept_enterUp (by simp [training]))
      · exact heard.cellsKept
    · next up => exact (sameWork_restartSilence s k).cellsKept.trans (linksKept_restartSilence up) (cellsKept_loseLink _ k _ _)
    all_goals exact .refl s
  · exact (sameWork_badNotice s k).cellsKept

theorem cellsKept_takeTileStatus (s : State) (k : Link) (p : Position) (freed : Byte) (restart : Nibble) (shown : Byte) :
    CellsKept s (s.takeTileStatus k p freed restart shown) := by
  simp only [State.takeTileStatus]
  split
  · exact (SameWork.updateLink s rfl rfl).cellsKept
  · split
    · exact cellsKept_loseLink s k _ _
    · generalize returned : s.updateLink k (·.setPosition p (PositionRecord.returnCredit _ _ freed shown)) = u
      have same : SameWork s u := returned ▸ .updateLink s rfl rfl
      split
      · exact ((same.trans (.updateLink u rfl rfl)).attend _).cellsKept
      · exact same.cellsKept

/-! ### Resets (R47, R54, R137, R176) -/

/-- Without entries and records, every cell STALE and unmarked. -/
theorem cellsSound_of_blank {s : State} (cells : ∀ u w, s.cell u w = ⟨.stale, false⟩) (queue : ∀ j, (s.link j).queue = [])
    (hold : ∀ j, (s.link j).hold = []) : CellsSound s := by
  rw [cellsSound_iff]
  refine ⟨fun u w => .of_free (cells u w) (fun k he => ?_) fun k r hr => ?_, fun k r hr => ?_, fun k u w he => ?_⟩
  · rw [queue] at he
    cases he
  · rw [hold] at hr
    cases hr
  · rw [hold] at hr
    cases hr
  · rw [queue] at he
    cases he

theorem cellsSound_hardReset (s : State) : CellsSound s.hardReset :=
  (SameWork.of_eq (s := State.reset) rfl rfl rfl).cellsSound cellsSound_reset

theorem cellsKept_softReset (s : State) : CellsKept s s.softReset := by
  intro hl _
  have links := linkRules_softResetLinks (s := s) (List.finRange 4) (linkRules_of_linksSound hl)
  unfold State.softReset
  generalize (List.finRange 4).foldl State.softResetLink s = u at links
  have idle : ∀ j, LinkIdle (u.link j) := fun j => (links j).1.idle ((links j).2 (.inl (List.mem_finRange j)))
  refine cellsSound_of_blank (fun t w => ?_) (fun j => ?_) fun j => ?_
  · simp [State.cell, CellRecord.hardReset]
  · exact (idle j).1
  · exact (idle j).2.2.1

end Sys2Proof.Machine

/-! ## Every command keeps cells, queues and hold lists in agreement (R54, R55, R56) -/

namespace Sys2Proof.Machine

open Sys2Proof.Safety

/-! ### Events, accesses and command writes -/

section Outcomes

variable {s t : State}

theorem cellsKept_event {f : State → State} (h : s.event f = .next t) (hf : ∀ s, CellsKept s (f s)) : CellsKept s t := by
  obtain rfl : (if s.nReset then f s else s) = t := by simpa [State.event] using h
  exact .when fun _ => hf s

theorem cellsKept_access {f : State → State} (h : s.access f = .next t) (hf : ∀ s, CellsKept s (f s)) : CellsKept s t :=
  cellsKept_event h fun s => (sameWork_hostAccess s).cellsKept.trans (linksKept_hostAccess s) (hf _)

theorem cellsKept_commandWrite {code : Byte} {n : Nat} {body : List Word → State → State}
    (h : s.commandWrite code n body = .next t) (hb : ∀ ps s, CellsKept s (body ps s)) : CellsKept s t := by
  refine cellsKept_access h fun s => ?_
  rcases s.command_cases code n body with ⟨-, e⟩ | ⟨-, r, -, e⟩ | ⟨-, -, -, -, e⟩
  · rw [e]; exact (SameWork.of_eq rfl rfl rfl).cellsKept
  · rw [e]; exact (SameWork.of_eq rfl rfl rfl).cellsKept
  · rw [e]; exact (hb _ _).after rfl rfl rfl rfl

theorem cellsKept_linkCommand {code : Byte} {body : Link → State → State} (h : s.linkCommand code body = .next t)
    (hb : ∀ k s, CellsKept s (body k s)) : CellsKept s t :=
  cellsKept_commandWrite h fun _ s => .refuse_or fun _ => hb _ s

/-- An event that moves no work. -/
theorem cellsKept_idleEvent {f : State → State} (h : s.event f = .next t) (hf : ∀ s, SameWork s (f s)) : CellsKept s t :=
  cellsKept_event h fun s => (hf s).cellsKept

/-- An access that moves no work. -/
theorem cellsKept_idleAccess {f : State → State} (h : s.access f = .next t) (hf : ∀ s, SameWork s (f s)) : CellsKept s t :=
  cellsKept_access h fun s => (hf s).cellsKept

/-- A command write that moves no work. -/
theorem cellsKept_idleCommand {code : Byte} {n : Nat} {body : List Word → State → State}
    (h : s.commandWrite code n body = .next t) (hb : ∀ ps s, SameWork s (body ps s)) : CellsKept s t :=
  cellsKept_commandWrite h fun ps s => (hb ps s).cellsKept

/-- A command that reads ends at once. -/
theorem SameWork.complete (h : SameWork s t) (ws : List Word) : SameWork s (t.complete ws) := h.trans (.of_eq rfl rfl rfl)

theorem SameWork.refuse_or {p : Prop} [Decidable p] {r : ResultCode} (h : SameWork s t) :
    SameWork s (if p then s.refuse r else t) := by
  split
  · exact .of_eq rfl rfl rfl
  · exact h

/-! ### Commands with a case split of their own -/

theorem cellsKept_execHardResetEnd (h : execHardResetEnd s = .next t) : CellsKept s t := by
  simp only [execHardResetEnd, Host.Outcome.next.injEq] at h
  subst h
  split
  · exact .refl s
  · exact (SameWork.of_eq rfl rfl rfl).cellsKept

theorem cellsKept_execStartUpClearRow (h : execStartUpClearRow s = .next t) : CellsKept s t :=
  cellsKept_idleEvent h fun s => .when fun _ => by rw [State.endClearRow_eq]; exact .of_eq rfl rfl rfl

theorem cellsKept_execWindowWriteLanding (h : execWindowWriteLanding s = .next t) : CellsKept s t := by
  refine cellsKept_idleEvent h fun s => ?_
  split
  · exact .when fun _ => sameWork_land s _
  all_goals exact .refl s

theorem cellsKept_execLatchLoad (h : execLatchLoad s = .next t) : CellsKept s t := by
  refine cellsKept_idleEvent h fun s => ?_
  split
  · exact .when fun _ => sameWork_endLoad s _
  all_goals exact .refl s

theorem cellsKept_execPresentDeadline (h : execPresentDeadline s = .next t) : CellsKept s t := by
  refine cellsKept_idleEvent h fun s => .when fun _ => ?_
  split
  · exact sameWork_endPresent s _ _
  · exact sameWork_endPresent s _ _
  · exact .refl s

theorem cellsKept_execResultRead (h : execResultRead s = .next t) : CellsKept s t := by
  refine cellsKept_idleAccess h fun s => ?_
  split <;> exact .of_eq rfl rfl rfl

theorem cellsKept_execUnknownCommand {code : Word} (h : execUnknownCommand code s = .next t) : CellsKept s t := by
  unfold execUnknownCommand at h
  split at h
  · cases h
  · refine cellsKept_idleAccess h fun s => ?_
    split <;> exact .of_eq rfl rfl rfl

theorem cellsKept_execTileSet (h : execTileSet s = .next t) : CellsKept s t := by
  refine cellsKept_commandWrite h fun _ _ => .refuse_or fun _ => .refuse_or fun off => (cellsKept_setTile ?_).complete _
  exact Bool.eq_false_iff.mpr fun active => off (TileRecord.enabled_of_isActive active)

theorem cellsKept_execTileEnable (h : execTileEnable s = .next t) : CellsKept s t := by
  refine cellsKept_commandWrite h fun _ _ => .refuse_or fun _ => .refuse_or fun off => .refuse_or fun _ => .refuse_or fun _ =>
    (cellsKept_setTile ?_).complete _
  exact Bool.eq_false_iff.mpr fun active => off (TileRecord.enabled_of_isActive active)

theorem cellsKept_execTileDisable (h : execTileDisable s = .next t) : CellsKept s t := by
  refine cellsKept_commandWrite h fun _ _ => .refuse_or fun _ => ?_
  split
  · exact (cellsKept_disableTile _ _).complete _
  · exact .refuse _ _

theorem cellsKept_execQueryTile (h : execQueryTile s = .next t) : CellsKept s t :=
  cellsKept_idleCommand h fun _ s => .refuse_or (.refuse_or (.refuse_or (.refuse_or ((sameWork_startQuery s _).complete _))))

theorem cellsKept_execLinkEnable (h : execLinkEnable s = .next t) : CellsKept s t := by
  refine cellsKept_linkCommand h fun k s => ?_
  split
  · exact (sameWork_freshAttempt s k).cellsKept.complete _
  all_goals exact .refuse s _

theorem sameWork_switchOff (s : State) (k : Link) : SameWork s (s.updateLink k (·.switchOff)) := .updateLink s rfl rfl

theorem cellsKept_execLinkDisable (h : execLinkDisable s = .next t) : CellsKept s t := by
  refine cellsKept_linkCommand h fun k s => ?_
  split
  · exact (CellsKept.refl s).complete _
  · exact (sameWork_switchOff s k).cellsKept.complete _
  · exact (sameWork_switchOff s k).cellsKept.complete _
  · exact (cellsKept_loseLink s k _ _).complete _

theorem cellsKept_execLinkReset (h : execLinkReset s = .next t) : CellsKept s t := by
  refine cellsKept_linkCommand h fun k s => ?_
  split
  · exact .refuse s _
  · exact (sameWork_freshAttempt s k).cellsKept.complete _
  · exact (sameWork_freshAttempt s k).cellsKept.complete _
  · exact (cellsKept_loseLink s k _ _).complete _

theorem cellsKept_execPresent (h : execPresent s = .next t) : CellsKept s t := by
  refine cellsKept_commandWrite h fun _ s => ?_
  split
  · exact .refuse s _
  · exact .refuse s _
  · split
    · exact (sameWork_cut s).cellsKept.complete _
    · exact .refuse s _

theorem cellsKept_execCancelPresent (h : execCancelPresent s = .next t) : CellsKept s t := by
  refine cellsKept_commandWrite h fun _ s => ?_
  split
  · exact (sameWork_endPresent s _ _).cellsKept.complete _
  · exact .refuse s _
  · exact .refuse s _

theorem cellsKept_execSoftReset (h : execSoftReset s = .next t) : CellsKept s t := by
  refine cellsKept_access h fun s => ?_
  split
  · exact (SameWork.of_eq rfl rfl rfl).cellsKept
  · exact ((cellsKept_softReset _).complete _).after rfl rfl rfl rfl

end Outcomes

/-! ### Every command -/

theorem exec_cellsKept {c : Instr} {s t : State} (h : exec c s = .next t) : CellsKept s t := by
  cases c with
  | hardReset => cases h; exact fun _ _ => cellsSound_hardReset s
  | hardResetEnd => exact cellsKept_execHardResetEnd h
  | startUpClearRow => exact cellsKept_execStartUpClearRow h
  | pixelWrite v =>
    exact cellsKept_idleAccess (show execPixelWrite v s = .next t from h) fun s => sameWork_writePixelData s v
  | pixelRead => exact cellsKept_idleAccess (show execPixelRead s = .next t from h) sameWork_readPixelData
  | windowWriteLanding => exact cellsKept_execWindowWriteLanding h
  | latchLoad => exact cellsKept_execLatchLoad h
  | fillRow => exact cellsKept_idleEvent (show execFillRow s = .next t from h) fun s => .when fun _ => sameWork_endFillRow s
  | remapSweepPass => exact cellsKept_idleEvent (show execRemapSweepPass s = .next t from h) sameWork_sweepPass
  | walkerExamination =>
    exact cellsKept_event (show execWalkerExamination s = .next t from h) fun s => .when fun _ => cellsKept_examine s
  | dispatchSelection k =>
    exact cellsKept_event (show execDispatchSelection k s = .next t from h) fun s => cellsKept_select s k
  | captureGrantEnd k =>
    exact cellsKept_event (show execCaptureGrantEnd k s = .next t from h) fun s => .when fun _ => cellsKept_endCapture s k
  | transmissionEnd k =>
    exact cellsKept_idleEvent (show execTransmissionEnd k s = .next t from h)
      fun s => .updateTx s k LinkSlice.endTransmission_eq
  | helloInterval k =>
    exact cellsKept_idleEvent (show execHelloInterval k s = .next t from h)
      fun s => .when fun _ => .updateTx s k LinkSlice.handHello_eq
  | attemptTimeout k =>
    exact cellsKept_idleEvent (show execAttemptTimeout k s = .next t from h)
      fun s => .when fun _ => sameWork_attemptTimedOut s k
  | helloNotice k seen n capacity restart =>
    exact cellsKept_event (show execHelloNotice k seen n capacity restart s = .next t from h)
      fun s => cellsKept_takeHello s k seen n capacity restart
  | ackNotice k q =>
    exact cellsKept_event (show execAckNotice k q s = .next t from h)
      fun s => cellsKept_notice s k fun s => cellsKept_takeAck s k q
  | nakNotice k q =>
    exact cellsKept_event (show execNakNotice k q s = .next t from h)
      fun s => cellsKept_notice s k fun s => cellsKept_takeNak s k q
  | tileStatusNotice k p freed restart shown =>
    exact cellsKept_event (show execTileStatusNotice k p freed restart shown s = .next t from h)
      fun s => cellsKept_notice s k fun s => cellsKept_takeTileStatus s k p freed restart shown
  | reportNotice k p tag capacity shown restart word =>
    exact cellsKept_event (show execReportNotice k p tag capacity shown restart word s = .next t from h)
      fun s => cellsKept_notice s k fun s =>
      (sameWork_takeReport s k p tag capacity shown restart word).cellsKept
  | idleNotice k => exact cellsKept_event (show execIdleNotice k s = .next t from h) fun s => cellsKept_notice s k .refl
  | invalidNotice k =>
    exact cellsKept_idleEvent (show execInvalidNotice k s = .next t from h) fun s => sameWork_badNotice s k
  | replayTimeout k =>
    exact cellsKept_event (show execReplayTimeout k s = .next t from h) fun s => .when fun _ => cellsKept_replayTimedOut s k
  | replayRetransmission k =>
    exact cellsKept_idleEvent (show execReplayRetransmission k s = .next t from h) fun s => sameWork_retransmit s k
  | reReadGrantEnd k =>
    exact cellsKept_idleEvent (show execReReadGrantEnd k s = .next t from h) fun s => .when fun _ => sameWork_endReRead s k
  | silenceTimeout k =>
    exact cellsKept_event (show execSilenceTimeout k s = .next t from h) fun s => .when fun _ => cellsKept_loseLink s k _ _
  | queryTimeout =>
    exact cellsKept_idleEvent (show execQueryTimeout s = .next t from h) fun s => .when fun _ => .of_eq rfl rfl rfl
  | presentDeadline => exact cellsKept_execPresentDeadline h
  | parameterWrite v => exact cellsKept_idleAccess (show execParameterWrite v s = .next t from h) fun s => .of_eq rfl rfl rfl
  | resultRead => exact cellsKept_execResultRead h
  | commandStatusRead =>
    exact cellsKept_idleAccess (show execCommandStatusRead s = .next t from h) fun s => .of_eq rfl rfl rfl
  | attentionRead => exact cellsKept_idleAccess (show execAttentionRead s = .next t from h) fun s => .of_eq rfl rfl rfl
  | writeMaskWrite v => exact cellsKept_idleAccess (show execWriteMaskWrite v s = .next t from h) fun s => .of_eq rfl rfl rfl
  | interruptEnableWrite v =>
    exact cellsKept_idleAccess (show execInterruptEnableWrite v s = .next t from h) fun s => .of_eq rfl rfl rfl
  | registerWrite location v => exact cellsKept_idleAccess (show execRegisterWrite location v s = .next t from h) .refl
  | unknownCommand code => exact cellsKept_execUnknownCommand h
  | configureWall =>
    exact cellsKept_idleCommand (show execConfigureWall s = .next t from h)
      fun _ s => .refuse_or (.refuse_or (.of_eq rfl rfl rfl))
  | setWindow =>
    exact cellsKept_idleCommand (show execSetWindow s = .next t from h) fun _ s => .refuse_or (sameWork_takeWindowOp s _)
  | setPointer =>
    exact cellsKept_idleCommand (show execSetPointer s = .next t from h) fun _ s => .refuse_or (sameWork_takeWindowOp s _)
  | setMode =>
    exact cellsKept_idleCommand (show execSetMode s = .next t from h) fun _ s => .refuse_or (sameWork_takeWindowOp s _)
  | fill =>
    exact cellsKept_idleCommand (show execFill s = .next t from h)
      fun _ s => .refuse_or (.after (sameWork_takeWindowOp _ _) rfl rfl rfl)
  | mapSet =>
    exact cellsKept_idleCommand (show execMapSet s = .next t from h) fun _ s => .refuse_or (sameWork_mapCommand s _)
  | mapRead =>
    exact cellsKept_idleCommand (show execMapRead s = .next t from h) fun _ s => .refuse_or ((SameWork.refl s).complete _)
  | setRollRegion =>
    exact cellsKept_idleCommand (show execSetRollRegion s = .next t from h) fun _ s => .refuse_or (sameWork_mapCommand s _)
  | roll =>
    exact cellsKept_idleCommand (show execRoll s = .next t from h)
      fun _ s => .refuse_or (.refuse_or (sameWork_mapCommand s _))
  | tileSet => exact cellsKept_execTileSet h
  | tileEnable => exact cellsKept_execTileEnable h
  | tileDisable => exact cellsKept_execTileDisable h
  | tileRead =>
    exact cellsKept_idleCommand (show execTileRead s = .next t from h) fun _ s => .refuse_or ((SameWork.refl s).complete _)
  | queryTile => exact cellsKept_execQueryTile h
  | queryRead => exact cellsKept_idleCommand (show execQueryRead s = .next t from h) fun _ s => (SameWork.refl s).complete _
  | cellRead =>
    exact cellsKept_idleCommand (show execCellRead s = .next t from h) fun _ s => .refuse_or ((SameWork.refl s).complete _)
  | setWalker =>
    exact cellsKept_idleCommand (show execSetWalker s = .next t from h) fun _ s => .refuse_or (.of_eq rfl rfl rfl)
  | linkEnable => exact cellsKept_execLinkEnable h
  | linkDisable => exact cellsKept_execLinkDisable h
  | linkReset => exact cellsKept_execLinkReset h
  | linkClearFlags =>
    exact cellsKept_linkCommand (show execLinkClearFlags s = .next t from h)
      fun k s => (SameWork.updateLink s rfl rfl).cellsKept.complete _
  | present => exact cellsKept_execPresent h
  | cancelPresent => exact cellsKept_execCancelPresent h
  | presentRead =>
    exact cellsKept_idleCommand (show execPresentRead s = .next t from h) fun _ s => (SameWork.refl s).complete _
  | setTimer =>
    exact cellsKept_idleCommand (show execSetTimer s = .next t from h)
      fun _ s => .refuse_or (.refuse_or (.of_eq rfl rfl rfl))
  | softReset => exact cellsKept_execSoftReset h

/-- Settles O58: the rules, cell by cell, go through every arm of `exec`. -/
theorem stepKeepsTheCellsSound : Obligations.StepKeepsTheCellsSound := by
  intro s t hl hs h
  unfold step at h
  split at h
  · cases h
    exact hs
  · next c rest _ =>
    have taken : SameWork s { s with pending := rest } := .of_eq rfl rfl rfl
    exact exec_cellsKept h (linksSound_congr rfl rfl rfl hl) (taken.cellsSound hs)

end Sys2Proof.Machine

/-! ## The refresh Walker (R69 to R71, R75) -/

namespace Sys2Proof.Machine

open Sys2Proof.Safety

theorem State.walkerRunning_iff (s : State) :
    s.walkerRunning = true ↔ s.walker.mode = .auto ∨ s.present.state = .collecting := by
  simp [State.walkerRunning]

theorem State.walkerQueues_iff (s : State) (t : TileIdx) (w : WallBand) : s.walkerQueues t w = true ↔
    (s.tile t).hasBand w = true ∧ (s.cell t w).state = .stale ∧ (s.tile t).state = .active ∧
      (s.link (s.tile t).link).queue.length < 32 ∧ (s.present.state ≠ .collecting ∨ (s.cell t w).marked = true) := by
  simp only [State.walkerQueues, Bool.and_eq_true, Bool.or_eq_true, beq_iff_eq, bne_iff_ne, isActive_iff, hasRoom_iff,
    Nat.not_le, and_assoc]

/-- The successor in a finite type of a value below the last one. -/
theorem ofNat_succ_eq_add_one (n : Nat) (i : Fin (n + 1)) : Fin.ofNat (n + 1) (i.val + 1) = i + 1 := by
  ext
  simp [Fin.val_add]

/-- The cursor's move in modular arithmetic: the tile wraps at 15 and carries into the band, which wraps at 47 (R69). -/
theorem Walker.next_eq (c : Walker) : c.next = ⟨c.mode, c.tile + 1, if c.tile = 15 then c.band + 1 else c.band⟩ := by
  obtain ⟨mode, t, w⟩ := c
  have lastTile : t = 15 ↔ ¬ t.val < 15 := by rw [Fin.ext_iff]; change t.val = 15 ↔ _; omega
  have lastBand : w = 47 ↔ ¬ w.val < 47 := by rw [Fin.ext_iff]; change w.val = 47 ↔ _; omega
  simp only [Walker.next, ofNat_succ_eq_add_one, lastTile]
  by_cases inner : t.val < 15
  · simp [inner]
  obtain rfl := lastTile.mpr inner
  by_cases below : w.val < 47
  · simp [below]
  · obtain rfl := lastBand.mpr below
    simp

/-- WALKER EXAMINATION of a stopped Walker (R70). -/
theorem exec_walkerExamination_stopped {s : State} (high : s.nReset = true) (stopped : ¬ s.walkerRunning = true) :
    exec .walkerExamination s = .next s := by
  have run : execWalkerExamination s = .next _ := s.event_running _ high
  rwa [if_neg stopped] at run

/-- WALKER EXAMINATION of a running Walker (R69, R71). -/
theorem exec_walkerExamination_running {s : State} (high : s.nReset = true) (running : s.walkerRunning = true) :
    exec .walkerExamination s = .next s.examine := by
  have run : execWalkerExamination s = .next _ := s.event_running _ high
  rwa [if_pos running] at run

theorem State.examine_of_not_queues {s : State} (h : ¬ s.walkerQueues s.walker.tile s.walker.band = true) :
    s.examine = { s with walker := s.walker.next } := if_neg h

/-- The append and the cursor's move of an examination that queues a cell, before Q. -/
def State.examinedEntry (s : State) : State :=
  { s with
    walker := s.walker.next
    links := s.links.set (s.tile s.walker.tile).link
      ((s.link (s.tile s.walker.tile).link).enqueue (.cell s.walker.tile s.walker.band)) }

theorem State.examine_of_queues {s : State} (h : s.walkerQueues s.walker.tile s.walker.band = true) :
    s.examine = s.examinedEntry.queueCell s.walker.tile s.walker.band := if_pos h

/-- WALKER EXAMINATION (R69 to R71). -/
theorem exec_walkerExamination {s : State} (high : s.nReset = true) :
    let t := s.walker.tile
    let w := s.walker.band
    let k := (s.tile t).link
    let queues := (s.tile t).hasBand w = true ∧ (s.cell t w).state = .stale ∧ (s.tile t).state = .active ∧
      (s.link k).queue.length < 32 ∧ (s.present.state ≠ .collecting ∨ (s.cell t w).marked = true)
    let next : Walker := ⟨s.walker.mode, t + 1, if t = 15 then w + 1 else w⟩
    (¬(s.walker.mode = .auto ∨ s.present.state = .collecting) → exec .walkerExamination s = .next s) ∧
    (s.walker.mode = .auto ∨ s.present.state = .collecting →
      (¬ queues → exec .walkerExamination s = .next { s with walker := next }) ∧
      (queues → ∃ u, exec .walkerExamination s = .next u ∧
        u.cell t w = { s.cell t w with state := .queued } ∧
        (∀ x v, ¬(x = t ∧ v = w) → u.cell x v = s.cell x v) ∧
        { u with cells := s.cells } = { s with
          walker := next
          links := s.links.set k { s.link k with queue := (s.link k).queue ++ [.cell t w] } })) := by
  intro t w k queues next
  have conditions : s.walkerQueues t w = true ↔ queues := s.walkerQueues_iff t w
  have moved : s.walker.next = next := s.walker.next_eq
  rw [← s.walkerRunning_iff]
  refine ⟨exec_walkerExamination_stopped high, fun running => ⟨fun stays => ?_, fun joins => ?_⟩⟩
  · rw [exec_walkerExamination_running high running, State.examine_of_not_queues (conditions.not.mpr stays), moved]
  · refine ⟨_, exec_walkerExamination_running high running, ?_⟩
    rw [State.examine_of_queues (conditions.mpr joins)]
    have stale : (s.cell t w).state = .stale := joins.2.1
    refine ⟨?_, fun x v other => ?_, ?_⟩
    · rw [State.cell_queueCell, if_pos ⟨rfl, rfl⟩]
      change { s.cell t w with state := (s.cell t w).state.onQueue } = _
      rw [stale]
      rfl
    · rw [State.cell_queueCell, if_neg other]
      rfl
    · rw [← moved]
      rfl

/-- SET WALKER (R75). -/
theorem exec_setWalker {v : Word} {s : State} (accepted : Accepted s [v]) :
    (1 < v.toNat → exec .setWalker s = .next { s.hostAccess with cu := ended s 0x11 .range [] }) ∧
    (v.toNat ≤ 1 → exec .setWalker s = .next { s.hostAccess with
      cu := ended s 0x11 .ok []
      walker := ⟨if v = 0 then .auto else .manual, s.walker.tile, s.walker.band⟩ }) := by
  have run : exec .setWalker s = .next _ := s.commandWrite_accepted _ _ _ _ accepted rfl
  refine ⟨fun beyond => ?_, fun fits => ?_⟩
  · rw [run, if_pos (by exact beyond), State.refuse_hostAccess_takeCommand]
  · rw [run, if_neg (by exact Nat.not_lt.mpr fits)]
    have mode : param [v] 0 = 0 ↔ v = 0 := BitVec.toNat_inj (x := v) (y := 0)
    have cu : ({ s.hostAccess.takeCommand 0x11 with walker.mode := if param [v] 0 = 0 then .auto else .manual } : State).cu =
        (s.takeCommand 0x11).cu := by simp [State.takeCommand]
    rw [State.complete, State.finish_of_taken s _ _ _ _ cu]
    simp only [mode, State.takeCommand_hostAccess, State.walker_hostAccess]

/-- Settles O32: the Walker's examination by whether it runs and queues, and the checks of SET WALKER. -/
theorem walkerQueuesStaleCells : Obligations.WalkerQueuesStaleCells :=
  ⟨fun _ high => exec_walkerExamination high, fun _ _ accepted => exec_setWalker accepted⟩

end Sys2Proof.Machine

/-! ## A release reported to the Present Unit (R62, R154 to R158) -/

namespace Sys2Proof.Machine

open Sys2Proof.Safety

/-- What a release reads and its report changes is alike in both states: cells, present, attention queue, tiles, and the entries of
each link. -/
structure SameReports (s t : State) : Prop where
  cells : t.cells = s.cells
  present : t.present = s.present
  attention : t.attention = s.attention
  tiles : t.tiles = s.tiles
  queue : ∀ j, (t.link j).queue = (s.link j).queue
  backlog : ∀ j, (t.link j).backlog = (s.link j).backlog

namespace SameReports

variable {s t u : State}

theorem refl (s : State) : SameReports s s := ⟨rfl, rfl, rfl, rfl, fun _ => rfl, fun _ => rfl⟩

theorem trans (h : SameReports s t) (g : SameReports t u) : SameReports s u where
  cells := g.cells.trans h.cells
  present := g.present.trans h.present
  attention := g.attention.trans h.attention
  tiles := g.tiles.trans h.tiles
  queue j := (g.queue j).trans (h.queue j)
  backlog j := (g.backlog j).trans (h.backlog j)

theorem cell (h : SameReports s t) (v : TileIdx) (w : WallBand) : t.cell v w = s.cell v w := by
  simp only [State.cell, h.cells]

theorem tile (h : SameReports s t) (v : TileIdx) : t.tile v = s.tile v := by simp only [State.tile, h.tiles]

theorem entries (h : SameReports s t) (j : Link) :
    (t.link j).queue ++ (t.link j).backlog = (s.link j).queue ++ (s.link j).backlog := by rw [h.queue, h.backlog]

/-- A link's slice changes outside its queue and backlog. -/
theorem setLink {k : Link} {l : LinkSlice} (s : State) (queue : l.queue = (s.link k).queue)
    (backlog : l.backlog = (s.link k).backlog) : SameReports s (s.setLink k l) := by
  refine ⟨rfl, rfl, rfl, rfl, fun j => ?_, fun j => ?_⟩ <;> rw [State.link_setLink] <;> split
  · next same => rw [queue, same]
  · rfl
  · next same => rw [backlog, same]
  · rfl

theorem setArbiter (h : SameReports s t) (a : Arbiter) : SameReports s { t with arbiter := a } := { h with }

/-- The SHOW entries of a present depend on the tiles alone. -/
theorem showEntries (h : SameReports s t) (j : Link) (n : Byte) (p : TileIdx → Bool) :
    showEntries t j n p = showEntries s j n p := by simp only [Safety.showEntries, h.tile]

end SameReports

/-! ### The ACK of the oldest record (R119, R120) -/

/-- The ACK of the oldest record of a hold list is in range and names the first record (R119). -/
theorem LinkSlice.ack_oldest {l : LinkSlice} {r : HoldRecord} {rest : List HoldRecord} (consecutive : HoldConsecutive l)
    (hold : l.hold = r :: rest) : l.ackInRange r.seq = true ∧ l.heldAt r.seq = some 0 := by
  have first : r.seq = l.nextSeq - BitVec.ofNat 12 (rest.length + 1) := by
    have oldest := consecutive ⟨0, by simp [hold]⟩
    simpa [hold] using oldest
  refine ⟨decide_eq_true ?_, ?_⟩
  · have distance : l.nextSeq - 1 - r.seq = BitVec.ofNat 12 rest.length := by rw [first]; bv_omega
    rw [distance, BitVec.toNat_ofNat, hold, List.length_cons]
    exact (Nat.mod_le ..).trans (Nat.le_succ _)
  · simp [LinkSlice.heldAt, hold, List.findIdx?_cons]

/-- After the records went, a release leaves cells, the present and the entries as the records' effects left them (R128). -/
theorem sameReports_release {s : State} {k : Link} {n : Nat} (some : (s.link k).hold.take n ≠ []) :
    SameReports (s.releaseRecords k n) (s.release k n) := by
  rcases s.release_cases k n with ⟨none, -⟩ | ⟨-, -, e⟩ | ⟨-, e⟩
  · exact absurd none some
  · rw [e]
    exact .refl _
  · obtain ⟨a, moved⟩ := (s.releaseRecords k n).giveUpReRead_updateReplayPoint k (((s.link k).hold.drop n).head?.map (·.seq))
    rw [e, moved]
    exact .setArbiter (.setLink _ (by rfl) (by rfl)) a

/-- The ACK of the oldest record: that record's effect, on a state alike but for the link's hold list and timers, and the rest of
the release after it (R108, R120, R122). -/
theorem exec_ackNotice_oldest {k : Link} {r : HoldRecord} {rest : List HoldRecord} {s : State} (high : s.nReset = true)
    (up : (s.link k).state = .up) (consecutive : HoldConsecutive (s.link k)) (hold : (s.link k).hold = r :: rest) :
    ∃ u t, exec (.ackNotice k r.seq) s = .next t ∧ SameReports s u ∧ SameReports (u.releaseEffect r) t := by
  have run : execAckNotice k r.seq s = .next _ := s.event_running _ high
  rw [State.notice_up up] at run
  obtain ⟨inRange, first⟩ := LinkSlice.ack_oldest consecutive hold
  have same : SameReports s (s.restartSilence k) := .setLink s (by rfl) (by rfl)
  have link : (s.restartSilence k).link k = { s.link k with silenceTimer := some s.timers.silenceTimeout } :=
    s.link_setLink_self k _
  have now : ((s.restartSilence k).link k).hold = r :: rest := by rw [link]; exact hold
  have takes : (s.restartSilence k).takeAck k r.seq = (s.restartSilence k).release k 1 := by
    have range : ((s.restartSilence k).link k).ackInRange r.seq = true := by rw [link]; exact inRange
    have place : ((s.restartSilence k).link k).heldAt r.seq = some 0 := by rw [link]; exact first
    simp only [State.takeAck, range, if_true, place]
  rw [takes] at run
  generalize s.restartSilence k = v at same now run
  refine ⟨v.setLink k ((v.link k).dropRecords 1 v.timers.replayTimeout), _, run,
    same.trans (.setLink v (by rfl) (by rfl)), ?_⟩
  have released := sameReports_release (s := v) (k := k) (n := 1) (by simp [now])
  simpa [State.releaseRecords, now] using released

/-! ### A SHOW record (R157, R158) -/

theorem State.releaseEffect_showTile (s : State) {r : HoldRecord} {n : Byte} (live : r.orphan = false)
    (body : r.body = .showTile n) : s.releaseEffect r = s.reportShow r.tile n := by
  simp [State.releaseEffect, live, body]

/-- The report of a participant's SHOW (R157). -/
theorem State.reportShow_of_participant {s : State} {t : TileIdx} (showing : s.present.state = .showing)
    (participates : TileSet.has s.present.participants t = true) : s.reportShow t s.present.number =
      if TileSet.add s.present.shown t = s.present.participants
      then ({ s with present.shown := TileSet.add s.present.shown t } : State).endPresent .done none
      else { s with present.shown := TileSet.add s.present.shown t } := by
  simp only [State.reportShow, showing, participates, true_and, if_true]

/-- A present that ends from SHOWING leaves the cells (R65, R158). -/
theorem State.cells_endPresent {s : State} (h : s.present.state = .showing) (o : PresentOutcome) (t : Option TileIdx) :
    (s.endPresent o t).cells = s.cells := by
  simp only [State.endPresent, h]
  rfl

theorem showReport {s : State} {t : TileIdx} (showing : s.present.state = .showing)
    (participates : TileSet.has s.present.participants t = true) :
    let p := s.present
    let u := s.reportShow t p.number
    u.cells = s.cells ∧ (∀ v, TileSet.has u.present.shown v = (v == t || TileSet.has p.shown v)) ∧
    (TileSet.add p.shown t = p.participants →
      { u.present with shown := p.shown } = { p with state := .idle, deadline := none, remaining := 0, outcome := .done } ∧
      u.attention = s.attention.append (.presentEnd .done p.number none none)) ∧
    (TileSet.add p.shown t ≠ p.participants → { u.present with shown := p.shown } = p ∧ u.attention = s.attention) := by
  intro p u
  have report : u = _ := State.reportShow_of_participant showing participates
  by_cases all : TileSet.add p.shown t = p.participants
  · rw [if_pos all] at report
    rw [report]
    exact ⟨State.cells_endPresent (by exact showing) _ _, TileSet.has_add _ _, fun _ => ⟨rfl, State.attention_endPresent _ _ _⟩,
      fun other => absurd all other⟩
  · rw [if_neg all] at report
    rw [report]
    exact ⟨rfl, TileSet.has_add _ _, fun same => absurd same all, fun _ => ⟨rfl, rfl⟩⟩

/-! ### A cell's record (R62, R154, R156) -/

theorem State.releaseEffect_ofBand (s : State) {r : HoldRecord} {w : WallBand} (live : r.orphan = false)
    (band : bodyBand r.body = some w) : s.releaseEffect r = State.releaseEffect.ackCellOf s r w := by
  cases body : r.body with
  | band v _ _ _ => rw [body] at band; cases band; simp [State.releaseEffect, live, body]
  | blank v => rw [body] at band; cases band; simp [State.releaseEffect, live, body]
  | showTile n => rw [body] at band; cases band
  | query g => rw [body] at band; cases band

/-- A live record of a marked INFLIGHT cell makes it CLEAN and reports the cleared mark (R62). -/
theorem State.releaseEffect_of_marked {s : State} {r : HoldRecord} {w : WallBand} (live : r.orphan = false)
    (band : bodyBand r.body = some w) (marked : s.cell r.tile w = ⟨.inflight, true⟩) :
    s.releaseEffect r = (s.setCell r.tile w ⟨.clean, false⟩).reportClearedMark := by
  rw [State.releaseEffect_ofBand s live band, State.releaseEffect.ackCellOf, State.ackCell, marked]
  rfl

theorem State.entries_updateLink_appendShow (s : State) (k j : Link) (e : Entry) :
    ((s.updateLink k (·.appendShow e)).link j).queue ++ ((s.updateLink k (·.appendShow e)).link j).backlog =
      (s.link j).queue ++ (s.link j).backlog ++ if k = j then [e] else [] := by
  rw [State.link_updateLink]
  by_cases same : j = k
  · rw [if_pos same, if_pos same.symm, LinkSlice.entries_appendShow, same]
  · rw [if_neg same, if_neg (Ne.symm same), List.append_nil]

/-- The SHOW entries of a list of tiles join the links of those tiles, in the list's order (R156). -/
theorem State.entries_foldl_appendShow (j : Link) (ts : List TileIdx) (s : State) :
    let u := ts.foldl (fun s t => s.updateLink (s.tile t).link (·.appendShow (.showTile t s.present.number))) s
    (u.link j).queue ++ (u.link j).backlog = (s.link j).queue ++ (s.link j).backlog ++
      (ts.filter fun t => (s.tile t).link == j).map fun t => Entry.showTile t s.present.number := by
  induction ts generalizing s with
  | nil => simp
  | cons t ts ih =>
    simp only [List.foldl_cons]
    rw [ih, State.entries_updateLink_appendShow, List.append_assoc]
    by_cases own : (s.tile t).link = j
    · simp [own]
    · simp [own]

/-- The entry to SHOWING appends one SHOW entry for each participant (R156). -/
theorem State.entries_enterShowing (s : State) (j : Link) :
    (s.enterShowing.link j).queue ++ (s.enterShowing.link j).backlog = (s.link j).queue ++ (s.link j).backlog ++
      showEntries s j s.present.number (TileSet.has s.present.participants) := by
  have joined := State.entries_foldl_appendShow j
    ((List.finRange 16).filter fun t => TileSet.has s.present.participants t) { s with present.state := .showing }
  rw [List.filter_filter] at joined
  simp only [showEntries, Bool.and_comm]
  exact joined

/-- A cleared mark while more than one remains (R154). -/
theorem State.reportClearedMark_of_more {s : State} (collecting : s.present.state = .collecting) (more : 2 ≤ s.present.remaining) :
    s.reportClearedMark = { s with present.remaining := s.present.remaining - 1 } := by
  simp only [State.reportClearedMark, collecting, if_true]
  exact if_neg (by omega)

/-- The last cleared mark (R154, R156). -/
theorem State.reportClearedMark_of_last {s : State} (collecting : s.present.state = .collecting) (last : s.present.remaining ≤ 1) :
    s.reportClearedMark = ({ s with present.remaining := 0 } : State).enterShowing := by
  have none : s.present.remaining - 1 = 0 := by omega
  simp only [State.reportClearedMark, collecting, none, if_true]

theorem State.present_enterShowing (s : State) : s.enterShowing.present = { s.present with state := .showing } := by
  obtain ⟨l, e⟩ := State.appendShows_frame { s with present.state := .showing }
  rw [State.enterShowing, e]

theorem clearedMarkReport {s : State} (collecting : s.present.state = .collecting) :
    let p := s.present
    let u := s.reportClearedMark
    (2 ≤ p.remaining → u.present = { p with remaining := p.remaining - 1 } ∧
      ∀ j, (u.link j).queue = (s.link j).queue ∧ (u.link j).backlog = (s.link j).backlog) ∧
    (p.remaining ≤ 1 → u.present = { p with state := .showing, remaining := 0 } ∧
      ∀ j, (u.link j).queue ++ (u.link j).backlog =
        (s.link j).queue ++ (s.link j).backlog ++ showEntries s j p.number (TileSet.has p.participants)) := by
  intro p u
  refine ⟨fun more => ?_, fun last => ?_⟩
  · have report : u = _ := State.reportClearedMark_of_more collecting more
    rw [report]
    exact ⟨rfl, fun _ => ⟨rfl, rfl⟩⟩
  · have report : u = _ := State.reportClearedMark_of_last collecting last
    rw [report]
    exact ⟨State.present_enterShowing _, State.entries_enterShowing _⟩

/-- A cleared-mark report leaves the cells and the attention queue (R154). -/
theorem State.cells_reportClearedMark (s : State) :
    s.reportClearedMark.cells = s.cells ∧ s.reportClearedMark.attention = s.attention := by
  obtain ⟨p, l, e⟩ := s.reportClearedMark_frame
  rw [e]
  exact ⟨rfl, rfl⟩

/-- Settles O40: the effect of the one record that goes, carried to the state after the ACK. -/
theorem releasesReportToThePresent : Obligations.ReleasesReportToThePresent := by
  intro k r rest s high up consecutive hold _ live p
  obtain ⟨u, t, run, before, after⟩ := exec_ackNotice_oldest high up consecutive hold
  have present : u.present = p := before.present
  refine ⟨fun n body showing current participates => ⟨t, run, ?_⟩, fun w band marked collecting => ⟨t, run, ?_⟩⟩
  · subst current
    rw [State.releaseEffect_showTile u live body] at after
    have report := showReport (s := u) (t := r.tile) (present ▸ showing) (present ▸ participates)
    simp only [present, before.cells, before.attention] at report
    rwa [after.cells, after.present, after.attention]
  · rw [State.releaseEffect_of_marked live band ((before.cell _ _).trans marked)] at after
    obtain ⟨cells, attention⟩ := (u.setCell r.tile w ⟨.clean, false⟩).cells_reportClearedMark
    obtain ⟨counts, begins⟩ := clearedMarkReport (s := u.setCell r.tile w ⟨.clean, false⟩) (present ▸ collecting)
    have same : (u.setCell r.tile w ⟨.clean, false⟩).present = p := present
    rw [same] at counts begins
    refine ⟨?_, fun v b => ?_, fun more => ?_, fun last => ?_⟩
    · rw [after.attention, attention]
      exact before.attention
    · rw [after.cell, State.cell, cells]
      exact (u.cell_setCell ..).trans (by rw [before.cell])
    · obtain ⟨counted, entries⟩ := counts more
      refine ⟨after.present.trans counted, fun j => ?_⟩
      obtain ⟨queue, backlog⟩ := entries j
      exact ⟨(after.queue j).trans (queue.trans (before.queue j)), (after.backlog j).trans (backlog.trans (before.backlog j))⟩
    · obtain ⟨begun, entries⟩ := begins last
      refine ⟨after.present.trans begun, fun j => ?_⟩
      rw [after.entries, entries]
      exact congrArg₂ _ (before.entries j) (before.showEntries j _ _)

end Sys2Proof.Machine

/-! ## Attempts and the transmitter (R92, R97, R115, R118) -/

namespace Sys2Proof.Machine

open Sys2Proof.Safety

/-- A HELLO handed over has the seen of that instant, and goes out at once or waits (R97). -/
theorem LinkSlice.handHello_eq_helloHanded (l : LinkSlice) :
    l.handHello = { l with tx := helloHanded l.tx (l.partnerHeard || l.state == .up) } := by
  cases sending : l.tx.sending with
  | none => simp only [LinkSlice.handHello, helloHanded, sending, LinkSlice.seen]
  | some f => simp only [LinkSlice.handHello, helloHanded, sending]

theorem LinkSlice.endTransmission_of_sending {l : LinkSlice} {f : Frame} (sending : l.tx.sending = some f) :
    l.endTransmission = { l with
      tx := if l.tx.helloWaiting then ⟨some (.hello (l.partnerHeard || l.state == .up)), false⟩ else ⟨none, false⟩ } := by
  simp only [LinkSlice.endTransmission, sending, LinkSlice.seen]
  split <;> rfl

/-- An attempt begins with partner heard no in TRAINING, so that its first HELLO has seen = no (R97, R115). -/
theorem LinkSlice.beginAttempt_eq_attempting (l : LinkSlice) (time n : Nat) :
    LinkSlice.beginAttempt { l with attemptCount := n } time = attempting l time n :=
  LinkSlice.handHello_eq_helloHanded _

/-- ATTEMPT TIMEOUT with attempts left (R118). -/
theorem State.attemptTimedOut_of_lt {s : State} {k : Link} (left : (s.link k).attemptCount + 1 < s.timers.attemptLimit) :
    s.attemptTimedOut k = s.setLink k (attempting (s.link k) s.timers.attemptTime ((s.link k).attemptCount + 1)) := by
  have again : s.attemptTimedOut k =
      (s.setLink k { s.link k with attemptCount := (s.link k).attemptCount + 1 }).updateLink k
        (·.beginAttempt s.timers.attemptTime) := if_neg (Nat.not_le.mpr left)
  rw [again, State.updateLink_setLink, LinkSlice.beginAttempt_eq_attempting]

/-- ATTEMPT TIMEOUT of the last attempt (R118). -/
theorem State.attemptTimedOut_of_le {s : State} {k : Link} (last : s.timers.attemptLimit ≤ (s.link k).attemptCount + 1) :
    s.attemptTimedOut k =
      (s.setLink k { s.link k with
        state := .fault, partnerHeard := false, attemptCount := (s.link k).attemptCount + 1, attemptTimer := none
        helloInterval := false, tx := ⟨(s.link k).tx.sending, false⟩ }).attend
        (.linkFault k ((s.link k).attemptCount + 1)) := by
  have fault : s.attemptTimedOut k =
      ((s.setLink k { s.link k with attemptCount := (s.link k).attemptCount + 1 }).updateLink k
        fun l => { l.endAttempt with state := .fault, partnerHeard := false }).attend
        (.linkFault k ((s.link k).attemptCount + 1)) := if_pos last
  rw [fault, State.updateLink_setLink]
  rfl

/-- Settles O37: the transmitter's two events and the two ends of an attempt. -/
theorem trainingTimersAndTransmitter : Obligations.TrainingTimersAndTransmitter := by
  refine ⟨fun k s high running => ?_, fun k f s high sending => ?_, fun k s high running => ?_⟩
  · have run : execHelloInterval k s = .next _ := s.event_running _ high
    rw [if_pos running, State.updateLink, LinkSlice.handHello_eq_helloHanded] at run
    exact run
  · have run : execTransmissionEnd k s = .next _ := s.event_running _ high
    rw [State.updateLink, LinkSlice.endTransmission_of_sending sending] at run
    exact run
  · have run : execAttemptTimeout k s = .next _ := s.event_running _ high
    rw [if_pos (Option.isSome_iff_ne_none.mpr running)] at run
    exact ⟨fun left => run.trans (congrArg _ (State.attemptTimedOut_of_lt left)),
      fun last => run.trans (congrArg _ (State.attemptTimedOut_of_le last))⟩

end Sys2Proof.Machine

/-! ## The oldest eligible entry (R85) -/

namespace Sys2Proof.Machine

open Sys2Proof.Safety

/-- An entry behind entries of the tiles `older` is held back: by one of its own tile, or as a CELL without credit (R85). -/
def Entry.HeldBack (hasCredit : TileIdx → Bool) (older : List TileIdx) (e : Entry) : Prop :=
  e.tile ∈ older ∨ ∃ t w, e = .cell t w ∧ ¬ hasCredit t = true

/-- Every entry of a queue behind entries of the tiles `older` is held back by what is older than it. -/
def AllHeldBack (hasCredit : TileIdx → Bool) (older : List TileIdx) (es : List Entry) : Prop :=
  ∀ a d b, es = a ++ d :: b → d.HeldBack hasCredit (a.map Entry.tile ++ older)

section Selection

variable {hasCredit : TileIdx → Bool} {older older' : List TileIdx} {e : Entry} {es : List Entry}

theorem Entry.heldBack_congr (same : ∀ t, t ∈ older ↔ t ∈ older') :
    e.HeldBack hasCredit older ↔ e.HeldBack hasCredit older' := or_congr_left (same _)

/-- The tile of an entry passed over counts among the older ones. -/
theorem Entry.heldBack_cons {a : List Entry} {x : Entry} :
    e.HeldBack hasCredit (a.map Entry.tile ++ x.tile :: older) ↔ e.HeldBack hasCredit ((x :: a).map Entry.tile ++ older) :=
  Entry.heldBack_congr fun _ => List.perm_middle.mem_iff

/-- The order in which the older tiles are told does not matter. -/
theorem oldestEligible_congr (same : ∀ t, t ∈ older ↔ t ∈ older') :
    oldestEligible hasCredit older es = oldestEligible hasCredit older' es := by
  induction es generalizing older older' with
  | nil => rfl
  | cons e es ih =>
    have more : ∀ t u, u ∈ t :: older ↔ u ∈ t :: older' := fun t u => by simp only [List.mem_cons, same]
    simp only [oldestEligible, List.contains_iff_mem, same, ih same, ih (more _)]

/-- A held-back entry is passed over, and its tile joins the older ones. -/
theorem oldestEligible_cons_of_heldBack (held : e.HeldBack hasCredit older) :
    oldestEligible hasCredit older (e :: es) = oldestEligible hasCredit (e.tile :: older) es := by
  by_cases own : e.tile ∈ older
  · have known : ∀ t, t ∈ older ↔ t ∈ e.tile :: older := fun t => by
      rw [List.mem_cons, or_iff_right_of_imp]
      rintro rfl
      exact own
    simp only [oldestEligible, List.contains_iff_mem, own, if_true]
    exact oldestEligible_congr known
  · obtain ⟨t, w, rfl, noCredit⟩ := held.resolve_left own
    simp only [oldestEligible, List.contains_iff_mem, own, noCredit, if_false]
    rfl

/-- An entry that nothing holds back is selected. -/
theorem oldestEligible_cons_of_not_heldBack (free : ¬ e.HeldBack hasCredit older) :
    oldestEligible hasCredit older (e :: es) = some e := by
  obtain ⟨own, credit⟩ := not_or.mp free
  simp only [oldestEligible, List.contains_iff_mem, own, if_false]
  cases e with
  | cell t w => exact if_pos (not_not.mp fun noCredit => credit ⟨t, w, rfl, noCredit⟩)
  | showTile t n => rfl
  | query t g => rfl

theorem allHeldBack_nil : AllHeldBack hasCredit older [] := fun a _ _ split => absurd split.symm (by simp)

theorem allHeldBack_cons (first : e.HeldBack hasCredit older) (rest : AllHeldBack hasCredit (e.tile :: older) es) :
    AllHeldBack hasCredit older (e :: es) := by
  intro a d b split
  cases a with
  | nil =>
    obtain ⟨rfl, -⟩ := List.cons.inj split
    exact first
  | cons x a =>
    obtain ⟨rfl, tail⟩ := List.cons.inj split
    exact Entry.heldBack_cons.mp (rest a d b tail)

/-- R85 for the scan: it finds nothing only when every entry is held back. -/
theorem allHeldBack_of_oldestEligible_eq_none (nothing : oldestEligible hasCredit older es = none) :
    AllHeldBack hasCredit older es := by
  induction es generalizing older with
  | nil => exact allHeldBack_nil
  | cons e es ih =>
    by_cases held : e.HeldBack hasCredit older
    · rw [oldestEligible_cons_of_heldBack held] at nothing
      exact allHeldBack_cons held (ih nothing)
    · rw [oldestEligible_cons_of_not_heldBack held] at nothing
      cases nothing

/-- R85 for the scan: what it finds is not held back, and every entry before it is. -/
theorem split_of_oldestEligible_eq_some (found : oldestEligible hasCredit older es = some e) :
    ∃ front back, es = front ++ e :: back ∧ ¬ e.HeldBack hasCredit (front.map Entry.tile ++ older) ∧
      AllHeldBack hasCredit older front := by
  induction es generalizing older with
  | nil => cases found
  | cons x es ih =>
    by_cases held : x.HeldBack hasCredit older
    · rw [oldestEligible_cons_of_heldBack held] at found
      obtain ⟨front, back, rfl, free, before⟩ := ih found
      exact ⟨x :: front, back, rfl, Entry.heldBack_cons.not.mp free, allHeldBack_cons held before⟩
    · rw [oldestEligible_cons_of_not_heldBack held] at found
      cases found
      exact ⟨[], es, rfl, held, allHeldBack_nil⟩

end Selection

theorem State.hasCredit_iff (s : State) (k : Link) (t : TileIdx) : s.hasCredit k t = true ↔ CreditAt s k t :=
  decide_eq_true_iff

/-- Held back behind the entries `a` of a link's queue, in the words of R85. -/
theorem heldBack_hasCredit_iff {s : State} {k : Link} {a : List Entry} {d : Entry} :
    d.HeldBack (s.hasCredit k) (a.map Entry.tile ++ []) ↔
      (∃ x ∈ a, x.tile = d.tile) ∨ ∃ t w, d = .cell t w ∧ ¬ CreditAt s k t := by
  simp only [Entry.HeldBack, List.append_nil, List.mem_map, State.hasCredit_iff]

/-- Settles O46: the scan of the queue, with no older tile before its first entry. -/
theorem oldestEligibleEntryIsSelected : Obligations.OldestEligibleEntryIsSelected := by
  refine fun s k => ⟨fun e found => ?_, fun nothing a d b split => ?_⟩
  · obtain ⟨front, back, split, free, before⟩ := split_of_oldestEligible_eq_some found
    obtain ⟨own, credit⟩ := not_or.mp (heldBack_hasCredit_iff.not.mp free)
    exact ⟨front, back, split, fun d hd same => own ⟨d, hd, same⟩,
      fun t w cell => not_not.mp fun noCredit => credit ⟨t, w, cell, noCredit⟩,
      fun a d b inFront => heldBack_hasCredit_iff.mp (before a d b inFront)⟩
  · exact heldBack_hasCredit_iff.mp (allHeldBack_of_oldestEligible_eq_none nothing a d b split)

end Sys2Proof.Machine

/-! ## Dispatch and capture (R84, R86 to R93, R98) -/

namespace Sys2Proof.Machine

open Sys2Proof.Safety

theorem LinkSlice.maySelect_iff (l : LinkSlice) : l.maySelect = true ↔ MaySelect l := by
  simp only [LinkSlice.maySelect, MaySelect, Bool.and_eq_true, beq_iff_eq,
    Option.isNone_iff_eq_none, decide_eq_true_eq, and_assoc]
  rfl

/-! ### Completions (R61, R86, R89) -/

/-- A SHOW or QUERY dispatch changes its link alone. -/
theorem State.completeDispatch_of_no_band {s : State} {k : Link} {e : Entry} {body : HoldBody} {payload : List Word}
    (noCell : e.band = none) : s.completeDispatch k e body payload = s.setLink k (completedLink s k e body payload) := by
  have cells : (s.completeDispatch k e body payload).cells = s.cells := by
    cases e with
    | cell t w => cases noCell
    | showTile t n => rfl
    | query t g => rfl
  obtain ⟨x, eq⟩ := s.completeDispatch_eq k e body payload
  rw [eq] at cells ⊢
  obtain rfl : x = s.cells := cells
  rfl

theorem captured_onCapture (c : CellRecord) : Captured c { c with state := c.state.onCapture } := by
  obtain ⟨state, marked⟩ := c
  cases state <;> simp [Captured, CellState.onCapture]

/-- A CELL dispatch completes, beside what becomes of the grant: C for its cell, and its link (R61, R86, R89). -/
theorem cellDispatch_completed (s : State) (k : Link) (t : TileIdx) (w : WallBand) (body : HoldBody) (payload : List Word)
    (a : Arbiter) :
    let u := { s.completeDispatch k (.cell t w) body payload with arbiter := a }
    Captured (s.cell t w) (u.cell t w) ∧ (∀ x v, ¬(x = t ∧ v = w) → u.cell x v = s.cell x v) ∧
    { u with cells := s.cells } = { s with
      links := s.links.set k (completedLink s k (.cell t w) body payload), arbiter := a } := by
  intro u
  have cell : ∀ x v, u.cell x v = _ := s.cell_completeDispatch k (.cell t w) body payload
  refine ⟨?_, fun x v other => ?_, ?_⟩
  · rw [cell, if_pos rfl]
    exact captured_onCapture _
  · rw [cell, if_neg]
    rintro ⟨⟩
    exact other ⟨rfl, rfl⟩
  · obtain ⟨x, eq⟩ := s.completeDispatch_eq k (.cell t w) body payload
    simp only [u, eq]
    rfl

/-! ### DISPATCH SELECTION (R84 to R87) -/

section Select

variable {s : State} {k : Link}

theorem State.select_of_idle (idle : ¬ MaySelect (s.link k) ∨ s.eligible k = none) : s.select k = s := by
  unfold State.select
  split
  · next may =>
    rw [idle.resolve_left (not_not.mpr ((LinkSlice.maySelect_iff _).mp may))]
  · rfl

theorem State.select_showTile (may : MaySelect (s.link k)) {t : TileIdx} {n : Byte}
    (eligible : s.eligible k = some (.showTile t n)) :
    s.select k = s.setLink k (completedLink s k (.showTile t n) (.showTile n) []) := by
  rw [State.select, if_pos ((LinkSlice.maySelect_iff _).mpr may), eligible]
  exact State.completeDispatch_of_no_band rfl

theorem State.select_query (may : MaySelect (s.link k)) {t : TileIdx} {g : Byte}
    (eligible : s.eligible k = some (.query t g)) :
    s.select k = s.setLink k (completedLink s k (.query t g) (.query g) []) := by
  rw [State.select, if_pos ((LinkSlice.maySelect_iff _).mpr may), eligible]
  exact State.completeDispatch_of_no_band rfl

theorem State.select_blank (may : MaySelect (s.link k)) {t : TileIdx} {w : WallBand}
    (eligible : s.eligible k = some (.cell t w)) (blank : s.map.resolve w = none) :
    s.select k = s.completeDispatch k (.cell t w) (.blank w) [] := by
  simp only [State.select, (LinkSlice.maySelect_iff _).mpr may, if_true, eligible, blank]

theorem State.select_band (may : MaySelect (s.link k)) {t : TileIdx} {w : WallBand} {b : StoreBand}
    (eligible : s.eligible k = some (.cell t w)) (band : s.map.resolve w = some b) :
    s.select k = s.askCapture k t w b := by
  simp only [State.select, (LinkSlice.maySelect_iff _).mpr may, if_true, eligible, band]

end Select

/-- Settles O47: a selection by the entry selected and what its wall band resolves to. -/
theorem dispatchSelectionCompletesOrAsks : Obligations.DispatchSelectionCompletesOrAsks := by
  intro k s high c
  have run : exec c s = .next (s.select k) := s.event_running (·.select k) high
  rw [run]
  refine ⟨fun idle => by rw [State.select_of_idle idle], fun may => ⟨fun t n eligible => ?_, fun t g eligible => ?_,
    fun t w eligible blank => ?_, fun t w b eligible band => ?_⟩⟩
  · rw [State.select_showTile may eligible]
    rfl
  · rw [State.select_query may eligible]
    rfl
  · rw [State.select_blank may eligible blank]
    exact ⟨_, rfl, cellDispatch_completed s k t w (.blank w) [] s.arbiter⟩
  · rw [State.select_band may eligible band]
    rfl

/-! ### CAPTURE GRANT END (R88, R89, R93, Table 5-6) -/

section EndCapture

variable {s : State} {k : Link} {t : TileIdx} {w : WallBand} {b : StoreBand}

theorem exec_captureGrantEnd (high : s.nReset = true) (holds : s.arbiter.holder = some (.capture k)) :
    exec (.captureGrantEnd k) s = .next (s.endCapture k) := by
  have run : execCaptureGrantEnd k s = .next _ := s.event_running _ high
  rwa [if_pos (by exact beq_iff_eq.mpr holds)] at run

/-- A read that the map still wants, or wants BLANK for, completes its dispatch and ends the grant (R88, R89). -/
theorem State.endCapture_completes (engine : (s.link k).engine = .dispatch t w b) {body : HoldBody} {payload : List Word}
    (wanted : s.map.resolve w = some b ∧ body = .band w b (s.tile t).firstColumn (s.tile t).width ∧
        payload = Memory.segment s.store b (s.tile t).firstColumn (s.tile t).width ∨
      s.map.resolve w = none ∧ body = .blank w ∧ payload = []) :
    s.endCapture k = (s.completeDispatch k (.cell t w) body payload).releaseGrant := by
  rcases wanted with ⟨same, rfl, rfl⟩ | ⟨blank, rfl, rfl⟩
  · simp only [State.endCapture, engine, same, if_true]
  · simp only [State.endCapture, engine, blank]

theorem State.endCapture_moved {b' : StoreBand} (engine : (s.link k).engine = .dispatch t w b)
    (moved : s.map.resolve w = some b') (other : b' ≠ b) : s.endCapture k = s.releaseGrant.askCapture k t w b' := by
  simp only [State.endCapture, engine, moved, other, if_false]

theorem State.endCapture_abandoned (engine : (s.link k).engine = .abandonedDispatch) :
    s.endCapture k = s.freeEngine k := by
  simp only [State.endCapture, engine]

end EndCapture

/-- Settles O48: the end of a read by what its wall band resolves to now, and of an abandoned one. -/
theorem captureGrantEndCompletesOrAsksAgain : Obligations.CaptureGrantEndCompletesOrAsksAgain := by
  intro k s high holds c
  have run : exec c s = .next (s.endCapture k) := exec_captureGrantEnd high holds
  rw [run]
  refine ⟨fun t w b engine => ⟨fun body payload wanted => ?_, fun b' moved other => ?_⟩, fun abandoned => ?_⟩
  · rw [State.endCapture_completes engine wanted]
    exact ⟨_, rfl, cellDispatch_completed s k t w body payload s.arbiter.release⟩
  · rw [State.endCapture_moved engine moved other]
    rfl
  · rw [State.endCapture_abandoned abandoned]
    rfl

end Sys2Proof.Machine

/-! ## The entry to UP and the notices by link state (R40, R104, R108 to R110, R116, R117, R140) -/

namespace Sys2Proof.Machine

open Sys2Proof.Safety

/-! ### The records of the entry to UP (R40) -/

/-- Whether the Tile Table examines a tile when link k comes UP (R40). -/
def State.examines (s : State) (k : Link) (u : TileIdx) : Bool := (s.tile u).enabled && (s.tile u).link == k

/-- The record that the examination of a tile writes (R40). -/
def State.joinEvent (s : State) (k : Link) (u : TileIdx) : AttentionEvent :=
  if ((s.link k).position (s.tile u).position).present then .tileJoined k u else .tileMissing k u (s.tile u).position

theorem State.attention_joinTile (s : State) (k : Link) (t : TileIdx) : (State.joinTile k s t).attention =
    if s.examines k t = true then s.attention.append (s.joinEvent k t) else s.attention := by
  by_cases examined : s.examines k t = true
  · rw [if_pos examined, State.joinTile, if_pos (by exact examined), State.joinEvent]
    split <;> rfl
  · rw [if_neg examined, State.joinTile, if_neg (by exact examined)]

/-- The examination of a tile decides nothing about the others, and nothing anew about its own (R40). -/
theorem State.examines_joinTile (s : State) (k : Link) (t : TileIdx) :
    (State.joinTile k s t).examines k = s.examines k ∧ (State.joinTile k s t).joinEvent k = s.joinEvent k := by
  have fields : ∀ u, ((State.joinTile k s t).tile u).enabled = (s.tile u).enabled ∧
      ((State.joinTile k s t).tile u).link = (s.tile u).link ∧
      ((State.joinTile k s t).tile u).position = (s.tile u).position := fun u => by
    rw [State.tile_joinTile]
    split
    · next joined =>
      obtain ⟨-, joins⟩ := joined
      simp only [State.joins, Bool.and_eq_true] at joins
      exact ⟨joins.1.1.symm, rfl, rfl⟩
    · exact ⟨rfl, rfl, rfl⟩
  refine ⟨funext fun u => ?_, funext fun u => ?_⟩ <;> obtain ⟨enabled, link, position⟩ := fields u
  · rw [State.examines, enabled, link, State.examines]
  · rw [State.joinEvent, State.link_joinTile, position, State.joinEvent]

/-- The examination of a list of tiles writes one record for each that is examined, in the list's order (R40). -/
theorem State.attention_joinTiles (k : Link) (ts : List TileIdx) (s : State) : (ts.foldl (State.joinTile k) s).attention =
    ((ts.filter (s.examines k)).map (s.joinEvent k)).foldl Attention.append s.attention := by
  induction ts generalizing s with
  | nil => rfl
  | cons t ts ih =>
    obtain ⟨examines, joinEvent⟩ := s.examines_joinTile k t
    rw [List.foldl_cons, ih, examines, joinEvent, State.attention_joinTile, List.filter_cons]
    split <;> rfl

/-! ### The entry to UP (R117, R140) -/

section EnterUp

variable {n : BitVec 3} {capacity restart : Vector Nibble 4}

/-- The positions that the entry to UP loads (R140). -/
theorem LinkSlice.position_enterUp (l : LinkSlice) (time : Nat) (p : Position) :
    (l.enterUp time n capacity restart).position p =
      if p.val < n.toNat then .loaded capacity[p] restart[p] else l.position p := by
  simp [LinkSlice.enterUp, LinkSlice.loadPositions, LinkSlice.position, LinkSlice.endAttempt]

theorem LinkSlice.position_handHello (l : LinkSlice) (p : Position) : l.handHello.position p = l.position p := by
  rw [LinkSlice.handHello_eq_helloHanded]
  rfl

/-- The link after the entry to UP and its closing HELLO, whose seen is yes; the positions apart (R97, R117). -/
theorem LinkSlice.handHello_enterUp (l : LinkSlice) (time : Nat) :
    { (l.enterUp time n capacity restart).handHello with positions := l.positions } = { l with
      state := .up, attemptCount := 0, attemptTimer := none, helloInterval := false, nextSeq := 0, silenceTimer := some time
      tx := helloHanded l.tx true } := by
  have seen : (l.partnerHeard || LinkState.up == LinkState.up) = true := Bool.or_true _
  rw [LinkSlice.handHello_eq_helloHanded]
  simp only [LinkSlice.enterUp, LinkSlice.loadPositions, LinkSlice.endAttempt, seen]
  rfl

variable {s : State} {k : Link}

/-- The Tile Table examines the tiles by the positions that the entry to UP leaves (R40, R140). -/
theorem State.position_enterUp (p : Position) : ((s.enterUp k n capacity restart).link k).position p =
    ((s.updateLink k (·.enterUp s.timers.silenceTimeout n capacity restart)).link k).position p := by
  rw [State.link_enterUp, if_pos rfl, LinkSlice.position_handHello, State.link_updateLink_self]

/-- LINK_UP, and then the records of the tiles examined, in ascending order (R40, R117). -/
theorem State.attention_enterUp :
    let t := s.enterUp k n capacity restart
    t.attention = (((List.finRange 16).filter (s.examines k)).map fun u =>
      if ((t.link k).position (s.tile u).position).present then AttentionEvent.tileJoined k u
      else .tileMissing k u (s.tile u).position).foldl Attention.append (s.attention.append (.linkUp k)) := by
  intro t
  simp only [t, State.position_enterUp]
  rw [State.enterUp, State.attention_updateLink, State.attention_joinTiles]
  rfl

/-- The enabled tiles of the link at present positions become ACTIVE (R40). -/
theorem State.tile_enterUp_eq (u : TileIdx) :
    let t := s.enterUp k n capacity restart
    t.tile u =
      if (s.tile u).state ≠ .disabled ∧ (s.tile u).link = k ∧ ((t.link k).position (s.tile u).position).present = true
      then { s.tile u with state := .active } else s.tile u := by
  intro t
  simp only [t, State.position_enterUp, State.tile_enterUp, State.joins, State.tile_updateLink, Bool.and_eq_true,
    beq_iff_eq, enabled_iff, and_assoc]
  rfl

/-- The entry to UP changes links, tiles and the attention queue only (R117). -/
theorem State.enterUp_frame : ∃ l x a, s.enterUp k n capacity restart = { s with links := l, tiles := x, attention := a } := by
  obtain ⟨x, a, e⟩ := State.joinTiles_frame k (List.finRange 16)
    ((s.updateLink k (·.enterUp s.timers.silenceTimeout n capacity restart)).attend (.linkUp k))
  simp only [State.enterUp, e]
  exact ⟨_, x, a, rfl⟩

end EnterUp

/-! ### HELLO (R104, R109, R116) -/

theorem helloWellFormed_iff (n : BitVec 3) (capacity : Vector Nibble 4) :
    helloWellFormed n capacity = true ↔ HelloFit n capacity := by
  simp only [helloWellFormed, HelloFit, Bool.and_eq_true, decide_eq_true_eq, List.all_eq_true, List.mem_finRange,
    forall_const, Bool.or_eq_true, ← Nat.not_lt, ← imp_iff_not_or, and_assoc]

section Routing

variable {s : State} {k : Link} {seen : Bool} {n : BitVec 3} {capacity restart : Vector Nibble 4}

/-- A notice that is not valid sets the flag of a link in TRAINING or UP (R102, R109). -/
theorem State.badNotice_of_listening (listens : (s.link k).state = .up ∨ (s.link k).state = .training) :
    s.badNotice k = s.setLink k { s.link k with badNotice := true } := by
  have flagged : s.badNotice k = s.updateLink k (·.setBadNotice) := by
    rcases listens with state | state <;> simp only [State.badNotice, state]
  exact flagged

/-- A link in OFF or FAULT discards a notice that is not valid (R109). -/
theorem State.badNotice_of_deaf (deaf : (s.link k).state = .off ∨ (s.link k).state = .fault) : s.badNotice k = s := by
  rcases deaf with state | state <;> simp only [State.badNotice, state]

/-- Outside UP a valid notice other than a HELLO is discarded (R109). -/
theorem State.notice_of_not_up (down : (s.link k).state ≠ .up) (f : State → State) : s.notice k f = s := by
  unfold State.notice
  split
  · next up => exact absurd up down
  · rfl
  · rfl
  · rfl

theorem State.takeHello_of_deaf (deaf : (s.link k).state = .off ∨ (s.link k).state = .fault) :
    s.takeHello k seen n capacity restart = s := by
  unfold State.takeHello
  split
  · rcases deaf with state | state <;> simp only [state]
  · exact State.badNotice_of_deaf deaf

theorem State.takeHello_of_not_fit (unfit : ¬ HelloFit n capacity) :
    s.takeHello k seen n capacity restart = s.badNotice k :=
  if_neg ((helloWellFormed_iff n capacity).not.mpr unfit)

/-- A well-formed HELLO in TRAINING: partner heard is yes, and with seen = yes the link enters UP (R116). -/
theorem State.takeHello_training (training : (s.link k).state = .training) (fit : HelloFit n capacity) :
    s.takeHello k seen n capacity restart =
      if seen = true then (s.setLink k { s.link k with partnerHeard := true }).enterUp k n capacity restart
      else s.setLink k { s.link k with partnerHeard := true } := by
  simp only [State.takeHello, (helloWellFormed_iff n capacity).mpr fit, if_true, training, State.updateLink]

end Routing

/-- Settles O38: the notice by the state of its link; in the entry to UP each part by its own lemma. -/
theorem helloBringsTheLinkUp : Obligations.HelloBringsTheLinkUp := by
  intro k seen n capacity restart s high c l
  have run : exec c s = .next (s.takeHello k seen n capacity restart) :=
    s.event_running (·.takeHello k seen n capacity restart) high
  rw [run]
  refine ⟨fun deaf => ?_, fun listens unfit => ?_, fun training fit notSeen => ?_, fun training fit isSeen => ?_⟩
  · rw [State.takeHello_of_deaf deaf]
  · rw [State.takeHello_of_not_fit unfit, State.badNotice_of_listening listens.symm]
    rfl
  · rw [State.takeHello_training training fit, notSeen]
    rfl
  · rw [State.takeHello_training training fit, if_pos isSeen]
    let u := s.setLink k { l with partnerHeard := true }
    let t := u.enterUp k n capacity restart
    have heard : u.link k = { l with partnerHeard := true } := s.link_setLink_self k _
    have link : ∀ j, t.link j = _ := fun j => State.link_enterUp j
    refine ⟨t, rfl, fun p => ?_, ?_, fun j other => ?_, fun v => State.tile_enterUp_eq v, State.attention_enterUp, ?_⟩
    · rw [link, if_pos rfl, LinkSlice.position_handHello, LinkSlice.position_enterUp, heard]
      rfl
    · rw [link, if_pos rfl, heard]
      exact LinkSlice.handHello_enterUp { l with partnerHeard := true } _
    · rw [link, if_neg other]
      exact s.link_setLink_of_ne k j _ other
    · obtain ⟨x, y, a, e⟩ := State.enterUp_frame (s := u) (k := k) (n := n) (capacity := capacity) (restart := restart)
      exact congrArg (fun v : State => { v with links := s.links, tiles := s.tiles, attention := s.attention }) e

end Sys2Proof.Machine

/-! ## The receiver of a notice (R101, R108 to R110, R188) -/

namespace Sys2Proof.Machine

open Sys2Proof.Safety

/-! ### Units and the lengths of their kinds -/

/-- The first byte fixes the length, so that bytes with more behind them are not yet a whole unit (R188). -/
theorem not_lengthOfKind_of_append {a c : List Byte} (more : c ≠ []) (whole : LengthOfKind (a ++ c)) : ¬ LengthOfKind a := by
  rw [lengthOfKind_iff] at whole ⊢
  intro short
  cases a with
  | nil => cases short
  | cons x a =>
    have lengths : some (x :: a).length = some (x :: a ++ c).length := short.symm.trans whole
    rw [Option.some.injEq, List.length_append, left_eq_add, List.length_eq_zero_iff] at lengths
    exact more lengths

/-- A unit without the length of its kind is not valid (R102). -/
theorem noticeCommand_of_not_lengthOfKind {bytes : List Byte} (short : ¬ LengthOfKind bytes) (k : Link) :
    noticeCommand k bytes = .invalidNotice k := by
  unfold noticeCommand
  split
  · split
    case h_7 => rfl
    all_goals exact absurd (by simp [LengthOfKind]) short
  · rfl

/-! ### The notice in progress (R101) -/

/-- The state with the notice in progress of link k set. -/
def State.withReceiving (s : State) (k : Link) (r : Option (List Byte)) : State :=
  s.setLink k { s.link k with receiving := r }

section Receiver

variable {s : State} {k : Link}

@[simp] theorem State.receiving_withReceiving (r : Option (List Byte)) :
    ((s.withReceiving k r).link k).receiving = r := by
  rw [State.withReceiving, State.link_setLink_self]

@[simp] theorem State.nReset_withReceiving (r : Option (List Byte)) : (s.withReceiving k r).nReset = s.nReset := rfl

theorem State.withReceiving_withReceiving (r r' : Option (List Byte)) :
    (s.withReceiving k r).withReceiving k r' = s.withReceiving k r' :=
  s.updateLink_setLink k _ fun l => { l with receiving := r' }

theorem State.withReceiving_self {r : Option (List Byte)} (now : (s.link k).receiving = r) : s.withReceiving k r = s := by
  subst now
  exact s.setLink_self k

/-- Symbols in two runs, the first of which leaves a state. -/
theorem State.receiveAll_append {t : State} {ys : List Symbol} (zs : List Symbol) (run : s.receiveAll k ys = .next t) :
    s.receiveAll k (ys ++ zs) = t.receiveAll k zs := by
  induction ys generalizing s with
  | nil => cases run; rfl
  | cons y ys ih =>
    simp only [State.receiveAll, List.cons_append] at run ⊢
    split at run
    · exact ih run
    · cases run
    · cases run

theorem State.receiveAll_singleton (s : State) (k : Link) (y : Symbol) : s.receiveAll k [y] = s.receive k y := by
  simp only [State.receiveAll]
  cases s.receive k y <;> rfl

/-- Outside a notice FILL and bytes are ignored (R188). -/
theorem State.receive_outside (high : s.nReset = true) (outside : (s.link k).receiving = none) {y : Symbol}
    (notStart : y ≠ .start) : s.receive k y = .next s := by
  have ignored : receiveSymbol (s.link k).receiving y = (none, none) := by
    rw [outside]
    cases y with
    | start => exact absurd rfl notStart
    | fill => rfl
    | data b => rfl
  rw [State.receive_of_none high ignored]
  exact congrArg _ (State.withReceiving_self outside)

/-- A byte that does not make the notice in progress whole joins it (R188). -/
theorem State.receive_byte_of_partial {bytes : List Byte} {b : Byte} (high : s.nReset = true)
    (short : ¬ LengthOfKind (bytes ++ [b])) :
    (s.withReceiving k (some bytes)).receive k (.data b) = .next (s.withReceiving k (some (bytes ++ [b]))) := by
  have grows := (receiveSymbol_data bytes b).2 short
  rw [State.receive_of_none (s := s.withReceiving k _) high (by rwa [State.receiving_withReceiving])]
  exact congrArg _ (State.withReceiving_withReceiving _ _)

/-- A byte that makes the notice in progress whole is its command, in the state without one (R101, R110). -/
theorem State.receive_byte_of_whole {bytes : List Byte} {b : Byte} (high : s.nReset = true)
    (whole : LengthOfKind (bytes ++ [b])) :
    (s.withReceiving k (some bytes)).receive k (.data b) =
      exec (noticeCommand k (bytes ++ [b])) (s.withReceiving k none) := by
  have ends := (receiveSymbol_data bytes b).1 whole
  rw [State.receive_of_unit (s := s.withReceiving k _) high (by rwa [State.receiving_withReceiving])]
  exact congrArg _ (State.withReceiving_withReceiving _ _)

/-- Outside a notice START and bytes that are no whole unit yet become the notice in progress (R101, R188). -/
theorem State.receiveAll_of_partial (high : s.nReset = true) (outside : (s.link k).receiving = none) (bytes : List Byte)
    (short : ∀ a, a <+: bytes → ¬ LengthOfKind a) :
    s.receiveAll k (.start :: bytes.map .data) = .next (s.withReceiving k (some bytes)) := by
  induction bytes using List.reverseRecOn with
  | nil =>
    have begins : receiveSymbol (s.link k).receiving .start = (some [], none) := by rw [outside]; rfl
    exact (s.receiveAll_singleton k .start).trans (State.receive_of_none high begins)
  | append_singleton bytes b ih =>
    have before := ih fun a first => short a (first.trans (List.prefix_append _ _))
    rw [List.map_append, ← List.cons_append, State.receiveAll_append _ before, List.map_singleton,
      State.receiveAll_singleton, State.receive_byte_of_partial high (short _ List.prefix_rfl)]

/-- Outside a notice START and the bytes of a whole unit are that unit's command (R101, R110). -/
theorem State.receiveAll_of_whole (high : s.nReset = true) (outside : (s.link k).receiving = none) {bytes : List Byte}
    (whole : LengthOfKind bytes) : s.receiveAll k (.start :: bytes.map .data) = exec (noticeCommand k bytes) s := by
  obtain rfl | ⟨front, b, rfl⟩ := bytes.eq_nil_or_concat'
  · simp [LengthOfKind] at whole
  have before : s.receiveAll k (.start :: front.map .data) = .next (s.withReceiving k (some front)) := by
    refine State.receiveAll_of_partial high outside front ?_
    rintro a ⟨c, rfl⟩
    rw [List.append_assoc] at whole
    exact not_lengthOfKind_of_append (by simp) whole
  rw [List.map_append, ← List.cons_append, State.receiveAll_append _ before, List.map_singleton,
    State.receiveAll_singleton, State.receive_byte_of_whole high whole, State.withReceiving_self outside]

/-- A START or FILL that comes early ends the bytes so far as one invalid notice (R102, R188). -/
theorem State.receive_cut_short {bytes : List Byte} {y : Symbol} {r : Option (List Byte)} (high : s.nReset = true)
    (inside : (s.link k).receiving = some bytes) (short : ¬ LengthOfKind bytes)
    (ends : receiveSymbol (some bytes) y = (r, some bytes)) :
    s.receive k y = exec (.invalidNotice k) (s.withReceiving k r) := by
  have unit : receiveSymbol (s.link k).receiving y = (r, some bytes) := by rw [inside, ends]
  rw [State.receive_of_unit high unit, noticeCommand_of_not_lengthOfKind short]
  rfl

end Receiver

/-- Outside UP every valid notice other than a HELLO is discarded (R109). -/
theorem event_notice_of_not_up {s : State} {k : Link} (high : s.nReset = true) (down : (s.link k).state ≠ .up)
    (f : State → State) : (s.event fun s => s.notice k f) = .next s := by
  rw [State.event_running s _ high, State.notice_of_not_up down]

/-- Settles O44: each notice by the state of its link, then the receiver with no notice in progress and with one. -/
theorem noticesAreRoutedByTheLinkState : Obligations.NoticesAreRoutedByTheLinkState := by
  intro k s high
  have invalid : exec (.invalidNotice k) s = .next (s.badNotice k) := s.event_running (·.badNotice k) high
  refine ⟨fun up => ?_, fun listens => ?_, fun deaf => ?_, fun down => ?_, fun outside => ?_, fun bytes inside short => ?_⟩
  · have run : execIdleNotice k s = .next (s.notice k id) := s.event_running (·.notice k id) high
    rw [State.notice_up up] at run
    exact run
  · rw [invalid, State.badNotice_of_listening listens]
    rfl
  · rw [invalid, State.badNotice_of_deaf deaf]
  · have discarded := event_notice_of_not_up high down
    exact ⟨discarded _, fun q => ⟨discarded _, discarded _⟩, fun p f r n => discarded _, fun p g y n r w => discarded _⟩
  · refine ⟨State.receive_outside high outside (by simp), fun b => State.receive_outside high outside (by simp),
      fun bytes whole => State.receiveAll_of_whole high outside whole, fun bytes short => ?_⟩
    refine State.receiveAll_of_partial high outside bytes fun a first => ?_
    rw [List.prefix_iff_eq_take.mp first]
    exact short _ first.length_le
  · exact ⟨State.receive_cut_short high inside short rfl, State.receive_cut_short high inside short rfl⟩

end Sys2Proof.Machine

/-! ## The link commands (R132 to R135) -/

namespace Sys2Proof.Machine

open Sys2Proof.Safety

section LinkCommands

variable {s : State} {v : Word} {k : Link} {code : Byte} {body : Link → State → State}

theorem State.linkCommand_beyond (accepted : Accepted s [v]) (beyond : 3 < v.toNat) :
    s.linkCommand code body = .next { s.hostAccess with cu := ended s code .range [] } := by
  have run : s.linkCommand code body = .next _ := s.commandWrite_accepted _ _ _ _ accepted rfl
  rw [run, if_pos (by exact beyond), State.refuse_hostAccess_takeCommand]

/-- An accepted command that names a link runs its own rule for that link. -/
theorem State.linkCommand_accepted (accepted : Accepted s [v]) (hv : k.val = v.toNat) :
    s.linkCommand code body = .next (body k (s.hostAccess.takeCommand code)) := by
  have inside : ¬ 3 < param [v] 0 := by
    have number : k.val = param [v] 0 := hv
    omega
  have names : paramLink [v] 0 = k := by
    rw [paramLink, show param [v] 0 = k.val from hv.symm]
    exact Fin.ofNat_val_eq_self k
  have run : s.linkCommand code body = .next _ := s.commandWrite_accepted _ _ _ _ accepted rfl
  rw [run, if_neg inside, names]

/-- What a link command looks at is not touched by the taking of the command. -/
theorem State.link_taken (s : State) (code : Byte) (k : Link) : (s.hostAccess.takeCommand code).link k = s.link k := by
  rw [State.link_takeCommand, State.link_hostAccess]

/-- A command that changes one link's slice and ends. -/
theorem State.complete_updateLink (s : State) (code : Byte) (k : Link) (f : LinkSlice → LinkSlice) (ws : List Word) :
    ((s.hostAccess.takeCommand code).updateLink k f).complete ws =
      { s.hostAccess with cu := ended s code .ok ws, links := s.links.set k (f (s.link k)) } := by
  rw [State.updateLink, State.link_taken, State.takeCommand_hostAccess]
  simp only [State.setLink, State.links_hostAccess]
  rfl

/-- A command that begins an attempt with the attempt count at 0, and ends (R115). -/
theorem State.complete_freshAttempt (s : State) (code : Byte) (k : Link) :
    ((s.hostAccess.takeCommand code).freshAttempt k).complete [] = { s.hostAccess with
      cu := ended s code .ok [], links := s.links.set k (attempting (s.link k) s.timers.attemptTime 0) } := by
  have begins : (s.hostAccess.takeCommand code).freshAttempt k =
      (s.hostAccess.takeCommand code).updateLink k fun l => attempting l s.timers.attemptTime 0 := by
    have counted : ∀ t : State, t.freshAttempt k = (t.setLink k { t.link k with attemptCount := 0 }).updateLink k
        (·.beginAttempt t.timers.attemptTime) := fun _ => rfl
    rw [counted, State.updateLink_setLink, LinkSlice.beginAttempt_eq_attempting, State.timers_takeCommand,
      State.timers_hostAccess, State.updateLink]
  rw [begins, State.complete_updateLink]

/-- LINK ENABLE by the state of its link (R132). -/
theorem exec_linkEnable (accepted : Accepted s [v]) (hv : k.val = v.toNat) :
    ((s.link k).state = .off → exec .linkEnable s = .next { s.hostAccess with
      cu := ended s 0x12 .ok [], links := s.links.set k (attempting (s.link k) s.timers.attemptTime 0) }) ∧
    ((s.link k).state ≠ .off → exec .linkEnable s = .next { s.hostAccess with cu := ended s 0x12 .state [] }) := by
  have rule : execLinkEnable s = s.linkCommand 0x12 _ := rfl
  have run : exec .linkEnable s = .next _ := rule.trans (State.linkCommand_accepted accepted hv)
  rw [State.link_taken] at run
  refine ⟨fun off => ?_, fun on => ?_⟩
  · rw [run, off]
    exact congrArg _ (s.complete_freshAttempt 0x12 k)
  · rw [run, ← State.refuse_hostAccess_takeCommand]
    cases state : (s.link k).state with
    | off => exact absurd state on
    | training => rfl
    | up => rfl
    | fault => rfl

/-- LINK DISABLE outside UP (R133). -/
theorem exec_linkDisable_outside_up (accepted : Accepted s [v]) (hv : k.val = v.toNat) :
    ((s.link k).state = .off → exec .linkDisable s = .next { s.hostAccess with cu := ended s 0x13 .ok [] }) ∧
    ((s.link k).state = .training ∨ (s.link k).state = .fault → exec .linkDisable s = .next { s.hostAccess with
      cu := ended s 0x13 .ok []
      links := s.links.set k { s.link k with
        state := .off, partnerHeard := false, attemptTimer := none, helloInterval := false, tx := ⟨none, false⟩ } }) := by
  have rule : execLinkDisable s = s.linkCommand 0x13 _ := rfl
  have run : exec .linkDisable s = .next _ := rule.trans (State.linkCommand_accepted accepted hv)
  rw [State.link_taken] at run
  refine ⟨fun off => ?_, fun attempted => ?_⟩
  · rw [run, off]
    exact congrArg _ (s.complete_hostAccess_takeCommand 0x13 [])
  · have switched := s.complete_updateLink 0x13 k (·.switchOff) []
    rcases attempted with state | state <;> rw [run, state] <;> exact congrArg _ switched

/-- LINK RESET outside UP (R134). -/
theorem exec_linkReset_outside_up (accepted : Accepted s [v]) (hv : k.val = v.toNat) :
    ((s.link k).state = .off → exec .linkReset s = .next { s.hostAccess with cu := ended s 0x14 .state [] }) ∧
    ((s.link k).state = .training ∨ (s.link k).state = .fault → exec .linkReset s = .next { s.hostAccess with
      cu := ended s 0x14 .ok [], links := s.links.set k (attempting (s.link k) s.timers.attemptTime 0) }) := by
  have rule : execLinkReset s = s.linkCommand 0x14 _ := rfl
  have run : exec .linkReset s = .next _ := rule.trans (State.linkCommand_accepted accepted hv)
  rw [State.link_taken] at run
  refine ⟨fun off => ?_, fun attempted => ?_⟩
  · rw [run, off]
    exact congrArg _ (s.refuse_hostAccess_takeCommand 0x14 .state)
  · have begun := s.complete_freshAttempt 0x14 k
    rcases attempted with state | state <;> rw [run, state] <;> exact congrArg _ begun

end LinkCommands

/-- Settles O34: the command's check, and then each command by the state of its link. -/
theorem linkCommandsOutsideUp : Obligations.LinkCommandsOutsideUp := by
  intro v s accepted
  refine ⟨fun beyond => ?_, fun k hv => ?_⟩
  · have enable : execLinkEnable s = s.linkCommand 0x12 _ := rfl
    have disable : execLinkDisable s = s.linkCommand 0x13 _ := rfl
    have reset : execLinkReset s = s.linkCommand 0x14 _ := rfl
    have refused := fun code body => State.linkCommand_beyond (code := code) (body := body) accepted beyond
    exact ⟨enable.trans (refused ..), disable.trans (refused ..), reset.trans (refused ..)⟩
  · obtain ⟨enabled, refused⟩ := exec_linkEnable accepted hv
    obtain ⟨alreadyOff, disabled⟩ := exec_linkDisable_outside_up accepted hv
    obtain ⟨notReset, reset⟩ := exec_linkReset_outside_up accepted hv
    exact ⟨fun off => ⟨enabled off, alreadyOff off, notReset off⟩, fun attempted => ⟨disabled attempted, reset attempted⟩,
      refused⟩

/-- Settles O35: the check of the command and the one change it makes. -/
theorem linkClearFlagsClearsThree : Obligations.LinkClearFlagsClearsThree := by
  intro v s accepted
  have rule : execLinkClearFlags s = s.linkCommand 0x15 _ := rfl
  refine ⟨fun beyond => rule.trans (State.linkCommand_beyond accepted beyond), fun k hv => ?_⟩
  have run : exec .linkClearFlags s = .next _ := rule.trans (State.linkCommand_accepted accepted hv)
  rw [run]
  exact congrArg _ (s.complete_updateLink 0x15 k (·.clearFlags) [])

end Sys2Proof.Machine

/-! ## The loss of a link (R129, R131, R133, R134) -/

namespace Sys2Proof.Machine

open Sys2Proof.Safety

/-- The arbiter when link k's capture engine is left doing e: the request of work given up before its grant is withdrawn (R93,
R125). -/
def State.arbiterLeaving (s : State) (k : Link) (e : CaptureEngine) : Arbiter :=
  if e = .idle ∧ (s.link k).engine ≠ .idle then s.arbiter.withdraw k else s.arbiter

theorem withdrawnWhenIdle_eq (s t : State) (k : Link) : withdrawnWhenIdle s t k = s.arbiterLeaving k (t.link k).engine := rfl

theorem State.arbiterLeaving_same (s : State) (k : Link) : s.arbiterLeaving k (s.link k).engine = s.arbiter :=
  if_neg fun h => h.2 h.1

theorem State.arbiter_stopEngine (s : State) (k : Link) : ((s.abandonDispatch k).giveUpReRead k).arbiter =
    s.arbiterLeaving k (stoppedEngine (s.holds (.capture k)) (s.link k).engine) := by
  have idle : ∀ a, (({ s.updateLink k (fun l => { l with engine := .idle }) with arbiter := a } : State).link k).engine =
      .idle := fun a => congrArg LinkSlice.engine (s.link_setLink_self k _)
  cases engine : (s.link k).engine with
  | idle => simp [State.abandonDispatch, State.giveUpReRead, State.arbiterLeaving, engine]
  | abandonedDispatch => simp [State.abandonDispatch, State.giveUpReRead, State.arbiterLeaving, engine, stoppedEngine]
  | givenUpReRead => simp [State.abandonDispatch, State.giveUpReRead, State.arbiterLeaving, engine, stoppedEngine]
  | dispatch t w b =>
    cases holds : s.holds (.capture k) with
    | true => simp [State.abandonDispatch, State.giveUpReRead, State.arbiterLeaving, engine, holds, stoppedEngine]
    | false =>
      simp only [State.abandonDispatch, engine, holds, Bool.false_eq_true, if_false, State.giveUpReRead, idle]
      simp [State.arbiterLeaving, engine, stoppedEngine]
  | reRead q =>
    cases holds : s.holds (.capture k) <;>
      simp [State.abandonDispatch, State.giveUpReRead, State.arbiterLeaving, engine, holds, stoppedEngine]

/-- A loss withdraws the request of a capture engine that has no grant yet, and leaves a grant (R93, R125, R131). -/
theorem State.arbiter_loseLink (s : State) (k : Link) (reason : LossReason) (off : Bool) :
    (s.loseLink k reason off).arbiter =
      s.arbiterLeaving k (stoppedEngine (s.holds (.capture k)) (s.link k).engine) := by
  have stopped := (s.attend (.linkLost k reason)).arbiter_stopEngine k
  simp only [State.loseLink]
  generalize ((s.attend (.linkLost k reason)).abandonDispatch k).giveUpReRead k = u at stopped
  generalize waits : (u.updateLink k (·.dropUp)).makeWaiting (s.activeTiles k) = v
  have arbiter : v.arbiter = u.arbiter := by rw [← waits]; rfl
  obtain ⟨x, p, q, a, n, left⟩ := v.leaveActive_frame (s.activeTiles k) ((s.link k).queue ++ (s.link k).backlog)
  rw [left]
  obtain ⟨l, after⟩ := State.afterLoss_frame { v with cells := x, present := p, query := q, attention := a, freeCount := n } k off
  rw [after]
  exact arbiter.trans stopped

/-- The lost link as `LinkLost` says (R115, R131). -/
theorem State.link_loseLink_self (s : State) (k : Link) (reason : LossReason) (off : Bool) :
    (s.loseLink k reason off).link k = { s.link k with
      state := if off then .off else .training
      queue := [], backlog := [], hold := [], replayPoint := none, replayCount := 0, replayTimer := none, silenceTimer := none
      partnerHeard := false
      attemptTimer := if off then (s.link k).attemptTimer else some s.timers.attemptTime
      helloInterval := if off then (s.link k).helloInterval else true
      tx := if off then ⟨none, false⟩ else ⟨some (.hello false), false⟩
      engine := stoppedEngine (s.holds (.capture k)) (s.link k).engine
      positions := (s.link k).positions.map fun p => { p with present := false, credit := 0, outstanding := 0 } } := by
  rw [State.link_loseLink, if_pos rfl]
  cases off <;> rfl

/-- A loss is as `LinkLost` says (R131). -/
theorem linkLost_loseLink (s : State) (k : Link) (reason : LossReason) (off : Bool) :
    LinkLost s (s.loseLink k reason off) k reason off := by
  have link := s.link_loseLink_self k reason off
  have arbiter := s.arbiter_loseLink k reason off
  refine ⟨link, fun j other => ?_, s.tile_loseLink k reason off, departed_loseLink s k reason off, ?_, ?_⟩
  · rw [State.link_loseLink, if_neg other]
  · rw [withdrawnWhenIdle_eq, link, arbiter]
  · obtain ⟨l, w, ts, x, p, q, a, n, e⟩ := s.loseLink_frame k reason off
    rw [e]
    exact ⟨rfl, rfl, rfl, rfl, rfl, rfl, rfl, rfl⟩

theorem State.cu_loseLink (s : State) (k : Link) (reason : LossReason) (off : Bool) : (s.loseLink k reason off).cu = s.cu := by
  obtain ⟨l, w, ts, x, p, q, a, n, e⟩ := s.loseLink_frame k reason off
  rw [e]

section LossReasons

variable {s t : State} {k : Link} {reason : LossReason} {off : Bool}

/-- The counters that a notice or an expiry changes before a loss are gone with it. -/
theorem linkLost_of_counters {silence : Option Nat} {count : Nat}
    (lost : LinkLost (s.setLink k { s.link k with silenceTimer := silence, replayCount := count }) t k reason off) :
    LinkLost s t k reason off := by
  obtain ⟨link, others, tiles, departed, arbiter, frame⟩ := lost
  have before := s.link_setLink_self k { s.link k with silenceTimer := silence, replayCount := count }
  rw [before] at link departed
  refine ⟨link, fun j other => (others j other).trans (s.link_setLink_of_ne k j _ other), tiles,
    departed_of_same departed rfl rfl rfl fun u => ⟨(s.tile u).state, rfl⟩, ?_, frame⟩
  rw [arbiter, withdrawnWhenIdle_eq, State.arbiterLeaving, before]
  rfl

/-- A loss by a command is a loss of the link as the command found it. -/
theorem linkLost_of_taken {code : Byte} {words : List Word}
    (lost : LinkLost (s.hostAccess.takeCommand code) t k reason off) : LinkLost s (t.complete words) k reason off := by
  have holds : (s.hostAccess.takeCommand code).holds (.capture k) = s.holds (.capture k) := by simp [State.holds]
  have arbiter : (s.hostAccess.takeCommand code).arbiterLeaving k = s.arbiterLeaving k := by
    funext e
    simp [State.arbiterLeaving]
  simp only [LinkLost, withdrawnWhenIdle_eq, arbiter, holds, State.link_taken, State.tile_takeCommand, State.tile_hostAccess,
    State.attention_takeCommand, State.attention_hostAccess, State.timers_takeCommand, State.timers_hostAccess,
    State.store_takeCommand, State.store_hostAccess, State.map_takeCommand, State.map_hostAccess, State.window_takeCommand,
    State.window_hostAccess, State.fill_takeCommand, State.fill_hostAccess, State.walker_takeCommand, State.walker_hostAccess,
    State.notReady_takeCommand, State.notReady_hostAccess, State.nReset_takeCommand, State.nReset_hostAccess] at lost
  obtain ⟨link, others, tiles, departed, frame⟩ := lost
  refine ⟨link, others, tiles, ?_, frame⟩
  exact departed_of_same_result (departed_of_same departed (by simp) (by simp) (by simp) fun u => ⟨(s.tile u).state, by simp⟩)
    rfl rfl rfl rfl

end LossReasons

/-- A valid HELLO in UP is counted for the silence timer and then ends the UP period (R108, R109). -/
theorem State.takeHello_up {s : State} {k : Link} {seen : Bool} {n : BitVec 3} {capacity restart : Vector Nibble 4}
    (up : (s.link k).state = .up) (fit : HelloFit n capacity) :
    s.takeHello k seen n capacity restart = (s.restartSilence k).loseLink k .partnerHello false := by
  simp only [State.takeHello, (helloWellFormed_iff n capacity).mpr fit, if_true, up]

/-- A command that ends the UP period of a link (R133, R134). -/
theorem linkLost_of_command (s : State) (code : Byte) (k : Link) (reason : LossReason) (off : Bool) :
    LinkLost s (((s.hostAccess.takeCommand code).loseLink k reason off).complete []) k reason off ∧
    (((s.hostAccess.takeCommand code).loseLink k reason off).complete []).cu = ended s code .ok [] := by
  refine ⟨linkLost_of_taken (linkLost_loseLink ..), ?_⟩
  rw [State.complete, State.finish_of_taken s _ code]
  rw [State.cu_loseLink]
  simp [State.takeCommand]

/-- Settles O36: the loss is one operation, which the expiry, the notice and the two commands begin in the state that they find. -/
theorem lossEndsTheUpPeriod : Obligations.LossEndsTheUpPeriod := by
  refine ⟨fun k s high up running => ?_, fun k seen n capacity restart s high up fit => ?_, fun k v s accepted hv up => ⟨?_, ?_⟩⟩
  · have run : execSilenceTimeout k s = .next _ := s.event_running _ high
    rw [if_pos (Option.isSome_iff_ne_none.mpr running)] at run
    exact ⟨_, run, linkLost_loseLink .., s.cu_loseLink ..⟩
  · have run : execHelloNotice k seen n capacity restart s = .next _ := s.event_running _ high
    rw [State.takeHello_up up fit] at run
    exact ⟨_, run, linkLost_of_counters (linkLost_loseLink ..), (s.restartSilence k).cu_loseLink ..⟩
  · have rule : execLinkReset s = s.linkCommand 0x14 _ := rfl
    have run : exec .linkReset s = .next _ := rule.trans (State.linkCommand_accepted accepted hv)
    rw [State.link_taken, up] at run
    exact ⟨_, run, linkLost_of_command ..⟩
  · have rule : execLinkDisable s = s.linkCommand 0x13 _ := rfl
    have run : exec .linkDisable s = .next _ := rule.trans (State.linkCommand_accepted accepted hv)
    rw [State.link_taken, up] at run
    exact ⟨_, run, linkLost_of_command ..⟩

end Sys2Proof.Machine

/-! ## Acknowledgement numbers (R119, R123) -/

namespace Sys2Proof.Machine

open Sys2Proof.Safety

/-- The numbers at most m below a number (R119). -/
theorem seqNo_distance_le_iff (n q : SeqNo) (m : Nat) :
    (n - q).toNat ≤ m ↔ ∃ i, i ≤ m ∧ q = n - BitVec.ofNat 12 i := by
  constructor
  · intro near
    refine ⟨_, near, ?_⟩
    rw [BitVec.ofNat_toNat, BitVec.setWidth_eq]
    exact (sub_sub_cancel n q).symm
  · rintro ⟨i, near, rfl⟩
    rw [sub_sub_cancel, BitVec.toNat_ofNat]
    exact (Nat.mod_le ..).trans near

/-- The acknowledgeable range for an ACK: with L records held and next number N, the values N - 1 - L to N - 1 (R119). -/
theorem LinkSlice.ackInRange_iff (l : LinkSlice) (q : SeqNo) :
    l.ackInRange q = true ↔ ∃ i, i ≤ l.hold.length ∧ q = l.nextSeq - 1 - BitVec.ofNat 12 i := by
  rw [LinkSlice.ackInRange, decide_eq_true_iff, seqNo_distance_le_iff]

/-- The range for a NAK: N - L to N (R119). -/
theorem LinkSlice.nakInRange_iff (l : LinkSlice) (q : SeqNo) :
    l.nakInRange q = true ↔ ∃ i, i ≤ l.hold.length ∧ q = l.nextSeq - BitVec.ofNat 12 i := by
  rw [LinkSlice.nakInRange, decide_eq_true_iff, seqNo_distance_le_iff]

section Notices

variable {s : State} {k : Link}

theorem State.link_restartSilence (s : State) (k : Link) :
    (s.restartSilence k).link k = { s.link k with silenceTimer := some s.timers.silenceTimeout } := s.link_setLink_self k _

/-- An ACK in UP is counted for the silence timer and taken (R108, R120). -/
theorem exec_ackNotice_up (high : s.nReset = true) (up : (s.link k).state = .up) (q : SeqNo) :
    exec (.ackNotice k q) s = .next ((s.restartSilence k).takeAck k q) := by
  have run : execAckNotice k q s = .next _ := s.event_running _ high
  rwa [State.notice_up up] at run

/-- A NAK in UP is counted for the silence timer and taken (R108, R121). -/
theorem exec_nakNotice_up (high : s.nReset = true) (up : (s.link k).state = .up) (q : SeqNo) :
    exec (.nakNotice k q) s = .next ((s.restartSilence k).takeNak k q) := by
  have run : execNakNotice k q s = .next _ := s.event_running _ high
  rwa [State.notice_up up] at run

/-- The stray flag after the count for the silence timer, as one change (R108, R123). -/
theorem State.setStray_restartSilence (s : State) (k : Link) : (s.restartSilence k).updateLink k (·.setStray) =
    s.setLink k { s.link k with stray := true, silenceTimer := some s.timers.silenceTimeout } :=
  s.updateLink_setLink k _ _

end Notices

/-- Settles O41: out of range is the negation of R119's range, for an ACK and for a NAK. -/
theorem strayAcknowledgementsSetTheFlag : Obligations.StrayAcknowledgementsSetTheFlag := by
  intro k q s high up l t
  have link := s.link_restartSilence k
  refine ⟨fun outside => ?_, fun outside => ?_⟩
  · have stray : ¬ ((s.restartSilence k).link k).ackInRange q = true := by
      rw [link, LinkSlice.ackInRange_iff]
      exact fun ⟨i, near, same⟩ => outside i near same
    rw [exec_ackNotice_up high up, State.takeAck, if_neg stray, State.setStray_restartSilence]
    rfl
  · have stray : ¬ ((s.restartSilence k).link k).nakInRange q = true := by
      rw [link, LinkSlice.nakInRange_iff]
      exact fun ⟨i, near, same⟩ => outside i near same
    rw [exec_nakNotice_up high up, State.takeNak, if_neg stray, State.setStray_restartSilence]
    rfl

end Sys2Proof.Machine

/-! ## Replay (R124 to R126) -/

namespace Sys2Proof.Machine

open Sys2Proof.Safety

/-- The state with link k's replay, the work of its capture engine and the arbiter set. -/
def State.withReplay (s : State) (k : Link) (point : Option SeqNo) (count : Nat) (timer : Option Nat) (engine : CaptureEngine)
    (a : Arbiter) : State :=
  { s.setLink k { s.link k with replayPoint := point, replayCount := count, replayTimer := timer, engine := engine } with
    arbiter := a }

section WithReplay

variable (s : State) (k : Link) (point : Option SeqNo) (count : Nat) (timer : Option Nat) (engine : CaptureEngine) (a : Arbiter)

theorem State.link_withReplay_self : (s.withReplay k point count timer engine a).link k =
    { s.link k with replayPoint := point, replayCount := count, replayTimer := timer, engine := engine } :=
  s.link_setLink_self k _

theorem State.link_withReplay_of_ne {j : Link} (other : j ≠ k) :
    (s.withReplay k point count timer engine a).link j = s.link j := s.link_setLink_of_ne k j _ other

end WithReplay

/-- The giving up of a re-read as one change of its link and of the arbiter (R125). -/
theorem State.giveUpReRead_eq_setLink (s : State) (k : Link) :
    let e := stoppedReRead (s.holds (.capture k)) (s.link k).engine
    s.giveUpReRead k = { s.setLink k { s.link k with engine := e } with arbiter := s.arbiterLeaving k e } := by
  intro e
  obtain ⟨a, given⟩ := s.giveUpReRead_eq k
  have arbiter : (s.giveUpReRead k).arbiter = s.arbiterLeaving k e := by
    cases engine : (s.link k).engine with
    | reRead q =>
      cases holds : s.holds (.capture k) <;> simp [e, State.arbiterLeaving, State.giveUpReRead, engine, holds, stoppedReRead]
    | idle => simp [e, State.arbiterLeaving, State.giveUpReRead, engine]
    | dispatch t w b => simp [e, State.arbiterLeaving, State.giveUpReRead, engine, stoppedReRead]
    | abandonedDispatch => simp [e, State.arbiterLeaving, State.giveUpReRead, engine, stoppedReRead]
    | givenUpReRead => simp [e, State.arbiterLeaving, State.giveUpReRead, engine, stoppedReRead]
  rw [given] at arbiter ⊢
  rw [← arbiter]

section Replay

variable {s : State} {k : Link} {q : SeqNo}

/-- A counted replay within the limit, as one change (R121, R124, R125). -/
theorem State.countReplay_begins (below : (s.link k).replayCount < s.timers.replayLimit) :
    let e := stoppedReRead (s.holds (.capture k)) (s.link k).engine
    s.countReplay k q = s.withReplay k (some q) ((s.link k).replayCount + 1) (some s.timers.replayTimeout) e
      (s.arbiterLeaving k e) := by
  intro e
  have begins : s.countReplay k q =
      (s.setLink k { s.link k with replayCount := (s.link k).replayCount + 1 }).beginReplay k q :=
    if_neg (Nat.not_lt.mpr below)
  rw [begins, State.beginReplay, State.giveUpReRead_eq_setLink, State.arbiterLeaving, State.link_setLink_self]
  simp only [State.updateLink, State.setLink, State.link, Vector.set_set, Fin.getElem_fin, Vector.getElem_set_self]
  rfl

/-- A counted replay above the limit ends the UP period (R121, R124, R131). -/
theorem State.countReplay_loses (above : s.timers.replayLimit ≤ (s.link k).replayCount) :
    LinkLost s (s.countReplay k q) k .replayLimit false ∧ (s.countReplay k q).cu = s.cu := by
  have loses : s.countReplay k q = State.loseLink
      (s.setLink k { s.link k with replayCount := (s.link k).replayCount + 1 }) k .replayLimit false :=
    if_pos (Nat.lt_succ_of_le above)
  rw [loses]
  exact ⟨linkLost_of_counters (linkLost_loseLink ..), State.cu_loseLink ..⟩

/-- REPLAY TIMEOUT with records held counts a replay from the oldest (R124). -/
theorem exec_replayTimeout {r : HoldRecord} {rest : List HoldRecord} (high : s.nReset = true)
    (running : (s.link k).replayTimer ≠ none) (hold : (s.link k).hold = r :: rest) :
    exec (.replayTimeout k) s = .next (s.countReplay k r.seq) := by
  have run : execReplayTimeout k s = .next _ := s.event_running _ high
  rwa [if_pos (Option.isSome_iff_ne_none.mpr running), State.replayTimedOut, hold] at run

/-- A held record stands in its hold list before every other record of its number. -/
theorem LinkSlice.split_of_heldRecord {l : LinkSlice} {r : HoldRecord} (held : l.heldRecord q = some r) :
    r.seq = q ∧ ∃ older newer, l.hold = older ++ r :: newer ∧ ∀ h ∈ older, h.seq ≠ r.seq := by
  obtain ⟨same, older, newer, split, before⟩ := List.find?_eq_some_iff_append.mp held
  have number : r.seq = q := beq_iff_eq.mp same
  refine ⟨number, older, newer, split, fun h inOlder => ?_⟩
  rw [number]
  simpa using before h inOlder

/-- A held record's frame handed over moves the replay point to the next held record (R126). -/
theorem retransmitted_handReplayed {l : LinkSlice} {r : HoldRecord} (held : l.heldRecord q = some r) (f : Frame) :
    Retransmitted l { l.handReplayed r f with engine := .idle } r f := by
  obtain ⟨-, older, newer, split, before⟩ := LinkSlice.split_of_heldRecord held
  have next : (l.hold.dropWhile fun h => h.seq != r.seq).drop 1 = newer := by
    have passed : (older.dropWhile fun h => h.seq != r.seq) = [] :=
      List.dropWhile_eq_nil_iff.mpr fun h inOlder => by simpa using before h inOlder
    rw [split, List.dropWhile_append, passed]
    simp
  exact ⟨older, newer, split, before, by rw [LinkSlice.handReplayed, next]; rfl⟩

/-- The record at the replay point of a free link is the one to retransmit (R126). -/
theorem LinkSlice.mayRetransmit_eq {l : LinkSlice} {r : HoldRecord} (idle : l.engine = .idle) (free : l.tx.sending = none)
    (point : l.replayPoint = some q) (held : l.heldRecord q = some r) : l.mayRetransmit = some r := by
  simp [LinkSlice.mayRetransmit, idle, free, point, held]

theorem exec_replayRetransmission (high : s.nReset = true) : exec (.replayRetransmission k) s = .next (s.retransmit k) :=
  s.event_running (·.retransmit k) high

theorem exec_reReadGrantEnd (high : s.nReset = true) (holds : s.arbiter.holder = some (.capture k)) :
    exec (.reReadGrantEnd k) s = .next (s.endReRead k) := by
  have run : execReReadGrantEnd k s = .next _ := s.event_running _ high
  rwa [if_pos (by exact beq_iff_eq.mpr holds)] at run

/-- A BAND record at the replay point is read again (R126). -/
theorem State.retransmit_band {r : HoldRecord} {w : WallBand} {b : StoreBand} {x n : Nat}
    (may : (s.link k).mayRetransmit = some r) (body : r.body = .band w b x n) :
    s.retransmit k = (s.setLink k { s.link k with engine := .reRead r.seq }).request (.capture k) := by
  simp only [State.retransmit, may, body]
  rfl

/-- Any other record at the replay point is handed over at once (R126). -/
theorem State.retransmit_of_not_band {r : HoldRecord} (may : (s.link k).mayRetransmit = some r)
    (noBand : ¬ ∃ w b x n, r.body = .band w b x n) :
    s.retransmit k = s.setLink k ((s.link k).handReplayed r (r.frame s.holdIndication [])) := by
  cases body : r.body with
  | band w b x n => exact absurd ⟨w, b, x, n, body⟩ noBand
  | blank w => simp only [State.retransmit, may, body, State.updateLink]
  | showTile n => simp only [State.retransmit, may, body, State.updateLink]
  | query g => simp only [State.retransmit, may, body, State.updateLink]

/-- The end of a re-read hands over the record's frame with its segment, and frees the engine (R126). -/
theorem State.endReRead_of_held {r : HoldRecord} (engine : (s.link k).engine = .reRead q)
    (held : (s.link k).heldRecord q = some r) :
    s.endReRead k = (s.setLink k { (s.link k).handReplayed r (r.frame s.holdIndication (s.replayPayload r)) with
      engine := .idle }).releaseGrant := by
  simp only [State.endReRead, engine, held]
  exact congrArg State.releaseGrant (s.updateLink_setLink k _ fun l => { l with engine := .idle })

theorem State.endReRead_of_givenUp (engine : (s.link k).engine = .givenUpReRead) : s.endReRead k = s.freeEngine k := by
  simp only [State.endReRead, engine]

end Replay

/-- Settles O45: the expiry by the replay count, the retransmission by the record's kind, and the two ends of a re-read. -/
theorem replayRetransmitsHeldRecords : Obligations.ReplayRetransmitsHeldRecords := by
  refine ⟨fun k r rest s high up running hold => ⟨fun below => ?_, fun above => ?_⟩,
    fun k q r s high idle free point held => ⟨fun band => ?_, fun noBand => ?_⟩,
    fun k q r w b column width s high holds engine held body => ?_, fun k s high holds engine => ?_⟩
  · have begins := State.countReplay_begins (q := r.seq) below
    refine ⟨_, exec_replayTimeout high running hold, ?_⟩
    rw [begins]
    have link := s.link_withReplay_self k (some r.seq) ((s.link k).replayCount + 1) (some s.timers.replayTimeout)
    refine ⟨link .., fun j other => s.link_withReplay_of_ne k _ _ _ _ _ other, ?_, rfl⟩
    rw [withdrawnWhenIdle_eq, link]
    rfl
  · exact ⟨_, exec_replayTimeout high running hold, State.countReplay_loses above⟩
  · obtain ⟨w, b, x, n, body⟩ := band
    rw [exec_replayRetransmission high, State.retransmit_band (LinkSlice.mayRetransmit_eq idle free point held) body]
    rfl
  · refine ⟨_, ?_, retransmitted_handReplayed held _⟩
    have stays : ∀ f, { (s.link k).handReplayed r f with engine := .idle } = (s.link k).handReplayed r f := fun f => by
      rw [← idle]
      rfl
    rw [exec_replayRetransmission high, State.retransmit_of_not_band (LinkSlice.mayRetransmit_eq idle free point held) noBand,
      stays]
    rfl
  · refine ⟨_, ?_, retransmitted_handReplayed held _⟩
    have payload : s.replayPayload r = Memory.segment s.store b column width := by rw [State.replayPayload, body]
    rw [exec_reReadGrantEnd high holds, State.endReRead_of_held engine held, payload]
    rfl
  · rw [exec_reReadGrantEnd high holds, State.endReRead_of_givenUp engine]
    rfl

end Sys2Proof.Machine

/-! ## ACK and NAK in range (R119 to R122, R128) -/

namespace Sys2Proof.Machine

open Sys2Proof.Safety

/-! ### What the effects of releases change (R62, R154, R156, R157) -/

/-- Everything the effect of a release can do: nothing, for an orphan or a QUERY; A for the record's cell; a SHOW's report
(Table 7-3). -/
theorem State.releaseEffect_cases (s : State) (r : HoldRecord) :
    ((r.orphan = true ∨ bodyBand r.body = none) ∧ s.releaseEffect r = s) ∨
    (∃ w, r.orphan = false ∧ bodyBand r.body = some w ∧ s.releaseEffect r = State.releaseEffect.ackCellOf s r w) ∨
    (∃ n, r.orphan = false ∧ r.body = .showTile n ∧ s.releaseEffect r = s.reportShow r.tile n) := by
  cases orphan : r.orphan with
  | true => exact .inl ⟨.inl rfl, if_pos orphan⟩
  | false =>
    cases body : r.body with
    | band w b x n => exact .inr (.inl ⟨w, rfl, rfl, s.releaseEffect_ofBand orphan (by rw [body]; rfl)⟩)
    | blank w => exact .inr (.inl ⟨w, rfl, rfl, s.releaseEffect_ofBand orphan (by rw [body]; rfl)⟩)
    | showTile n => exact .inr (.inr ⟨n, rfl, rfl, s.releaseEffect_showTile orphan body⟩)
    | query g => exact .inl ⟨.inr rfl, by simp [State.releaseEffect, body]⟩

/-- Cells, the present and the attention queue may have changed, and of the links the queues and backlogs; nothing else. -/
structure ReportsOnly (s t : State) : Prop where
  frame : ∃ x p l a, t = { s with cells := x, present := p, links := l, attention := a }
  links : ∀ j, t.link j = { s.link j with queue := (t.link j).queue, backlog := (t.link j).backlog }

namespace ReportsOnly

variable {s t u : State}

theorem of_same_links (h : ∃ x p a, t = { s with cells := x, present := p, attention := a }) : ReportsOnly s t := by
  obtain ⟨x, p, a, rfl⟩ := h
  exact ⟨⟨x, p, s.links, a, rfl⟩, fun _ => rfl⟩

theorem refl (s : State) : ReportsOnly s s := of_same_links ⟨_, _, _, rfl⟩

theorem trans (h : ReportsOnly s t) (g : ReportsOnly t u) : ReportsOnly s u := by
  obtain ⟨⟨x, p, l, a, rfl⟩, links⟩ := h
  obtain ⟨⟨x', p', l', a', rfl⟩, links'⟩ := g
  refine ⟨⟨x', p', l', a', rfl⟩, fun j => ?_⟩
  rw [links', links]

theorem foldl {α : Type} {f : State → α → State} (h : ∀ s a, ReportsOnly s (f s a)) (l : List α) (s : State) :
    ReportsOnly s (l.foldl f s) := by
  induction l generalizing s with
  | nil => exact refl s
  | cons a l ih => exact (h s a).trans (ih (f s a))

theorem appendShow (s : State) (k : Link) (e : Entry) : ReportsOnly s (s.updateLink k (·.appendShow e)) := by
  have kept : ∀ l : LinkSlice, l.appendShow e =
      { l with queue := (l.appendShow e).queue, backlog := (l.appendShow e).backlog } := fun l => by
    unfold LinkSlice.appendShow
    split <;> rfl
  refine ⟨⟨_, _, _, _, rfl⟩, fun j => ?_⟩
  rw [State.link_updateLink]
  split
  · next same =>
    rw [same]
    exact kept _
  · rfl

theorem enterShowing (s : State) : ReportsOnly s s.enterShowing :=
  (of_same_links (t := { s with present.state := .showing }) ⟨_, _, _, rfl⟩).trans
    (foldl (fun u t => appendShow u (u.tile t).link _) _ _)

theorem reportClearedMark (s : State) : ReportsOnly s s.reportClearedMark := by
  have counted : ReportsOnly s { s with present.remaining := s.present.remaining - 1 } := of_same_links ⟨_, _, _, rfl⟩
  simp only [State.reportClearedMark]
  split
  · split
    · exact counted.trans (enterShowing _)
    · exact counted
  · exact refl s

theorem releaseEffect (s : State) (r : HoldRecord) : ReportsOnly s (s.releaseEffect r) := by
  rcases s.releaseEffect_cases r with ⟨-, e⟩ | ⟨w, -, -, e⟩ | ⟨n, -, -, e⟩
  · rw [e]
    exact refl s
  · have acked : ReportsOnly s (s.ackCell r.tile w) := of_same_links ⟨_, _, _, rfl⟩
    rw [e, State.releaseEffect.ackCellOf]
    split
    · exact acked.trans (reportClearedMark _)
    · exact acked
  · rw [e]
    exact of_same_links (s.reportShow_frame _ _)

end ReportsOnly

/-- A on a cell record: column A of Table 4-2, and the mark of a cell that becomes CLEAN goes (R62). -/
def CellRecord.acknowledge (c : CellRecord) : CellRecord := ⟨c.state.onAck, c.marked && c.state != .inflight⟩

theorem CellRecord.acknowledged (c : CellRecord) : Acknowledged c c.acknowledge := by
  obtain ⟨state, marked⟩ := c
  cases state <;> simp [Acknowledged, CellRecord.acknowledge, CellState.onAck]

/-- A leaves no cell INFLIGHT and marked that was not so before (R62). -/
theorem CellRecord.acknowledge_ne {c : CellRecord} (quiet : c ≠ ⟨.inflight, true⟩) : c.acknowledge ≠ ⟨.inflight, true⟩ := by
  obtain ⟨state, marked⟩ := c
  cases state <;> simp_all [CellRecord.acknowledge, CellState.onAck]

section Effects

variable {s : State} {r : HoldRecord} {rs : List HoldRecord} {u : TileIdx} {w : WallBand}

/-- A SHOW report leaves the cells: a present that it ends was SHOWING (R65, R157). -/
theorem State.cells_reportShow (s : State) (t : TileIdx) (n : Byte) : (s.reportShow t n).cells = s.cells := by
  simp only [State.reportShow]
  split
  · next reports =>
    split
    · exact State.cells_endPresent (by exact reports.1) _ _
    · rfl
  · rfl

theorem State.cell_ackCellOf (s : State) (r : HoldRecord) (w v : WallBand) (u : TileIdx) :
    (State.releaseEffect.ackCellOf s r w).cell u v =
      if u = r.tile ∧ v = w then (s.cell u v).acknowledge else s.cell u v := by
  have acked : (s.ackCell r.tile w).cell u v = if u = r.tile ∧ v = w then (s.cell u v).acknowledge else s.cell u v := by
    rw [State.cell_ackCell]
    split
    · next here =>
      obtain ⟨rfl, rfl⟩ := here
      rfl
    · rfl
  unfold State.releaseEffect.ackCellOf
  split
  · rw [State.cell, (s.ackCell r.tile w).cells_reportClearedMark.1]
    exact acked
  · exact acked

/-- The effect of a release on one cell: A, where the record is a live one of the cell (R62, R122). -/
theorem State.cell_releaseEffect (s : State) (r : HoldRecord) (u : TileIdx) (w : WallBand) :
    (s.releaseEffect r).cell u w = if liveRecordOf u w r = true then (s.cell u w).acknowledge else s.cell u w := by
  rcases s.releaseEffect_cases r with ⟨noCell, e⟩ | ⟨v, live, band, e⟩ | ⟨n, live, body, e⟩
  · rw [e, if_neg]
    rcases noCell with no | no <;> simp [liveRecordOf, no]
  · have own : liveRecordOf u w r = true ↔ u = r.tile ∧ w = v := by
      rw [liveRecordOf_iff, band, Option.some_inj, eq_comm (a := r.tile), eq_comm (a := v)]
      exact and_iff_right live
    rw [e, State.cell_ackCellOf]
    simp only [own]
  · rw [e, State.cell, State.cells_reportShow, if_neg (by simp [liveRecordOf, body, bodyBand])]
    rfl

/-- The effects of a list of releases on one cell: A once for each live record of the cell (R62, R122). -/
theorem State.cell_releaseEffects (s : State) (rs : List HoldRecord) (u : TileIdx) (w : WallBand) :
    (rs.foldl State.releaseEffect s).cell u w = CellRecord.acknowledge^[rs.countP (liveRecordOf u w)] (s.cell u w) := by
  induction rs generalizing s with
  | nil => rfl
  | cons r rs ih =>
    rw [List.foldl_cons, ih, State.cell_releaseEffect, List.countP_cons]
    split <;> rfl

/-- A release without a report changes cells alone (R62, R157). -/
theorem State.releaseEffect_of_quiet (quiet : Quiet s [r]) : ∃ x, s.releaseEffect r = { s with cells := x } := by
  rcases s.releaseEffect_cases r with ⟨-, e⟩ | ⟨v, live, band, e⟩ | ⟨n, live, body, e⟩
  · exact ⟨s.cells, e⟩
  · obtain ⟨-, noMark⟩ := quiet r List.mem_cons_self live
    have silent : ¬ (s.cell r.tile v).ackReports = true := fun reports => by
      obtain ⟨inflight, marked⟩ := Bool.and_eq_true_iff.mp reports
      have same : (⟨(s.cell r.tile v).state, (s.cell r.tile v).marked⟩ : CellRecord) = ⟨.inflight, true⟩ := by
        rw [beq_iff_eq.mp inflight, marked]
      exact noMark v band same
    rw [e, State.releaseEffect.ackCellOf, if_neg silent]
    exact ⟨_, rfl⟩
  · obtain ⟨noShow, -⟩ := quiet r List.mem_cons_self live
    rw [e, State.reportShow, if_neg (noShow n body)]
    exact ⟨s.cells, rfl⟩

/-- Releases without a report change cells alone (R62, R157). -/
theorem State.releaseEffects_of_quiet (quiet : Quiet s rs) : ∃ x, rs.foldl State.releaseEffect s = { s with cells := x } := by
  induction rs generalizing s with
  | nil => exact ⟨s.cells, rfl⟩
  | cons r rs ih =>
    obtain ⟨x, e⟩ := State.releaseEffect_of_quiet (r := r) fun r' only =>
      quiet r' (List.mem_singleton.mp only ▸ List.mem_cons_self)
    have rest : Quiet (s.releaseEffect r) rs := fun r' later live => by
      obtain ⟨noShow, noMark⟩ := quiet r' (List.mem_cons_of_mem _ later) live
      have present : (s.releaseEffect r).present = s.present := by rw [e]
      refine ⟨present ▸ noShow, fun v band => ?_⟩
      rw [State.cell_releaseEffect]
      split
      · exact CellRecord.acknowledge_ne (noMark v band)
      · exact noMark v band
    obtain ⟨x', e'⟩ := ih rest
    exact ⟨x', by rw [List.foldl_cons, e', e]⟩

end Effects

end Sys2Proof.Machine

namespace Sys2Proof.Machine

open Sys2Proof.Safety

/-! ### The release of records as one change (R120, R124, R125, R128) -/

/-- The effects of the n oldest records of link k, which has let them go, with its silence timer, replay count and replay timer
set. -/
def State.takeEffects (s : State) (k : Link) (n : Nat) (silence : Option Nat) (count : Nat) (timer : Option Nat) : State :=
  ((s.link k).hold.take n).foldl State.releaseEffect (s.setLink k { s.link k with
    hold := (s.link k).hold.drop n, silenceTimer := silence, replayCount := count, replayTimer := timer })

section TakeEffects

variable (s : State) (k : Link) (n : Nat) (silence : Option Nat) (count : Nat) (timer : Option Nat)

theorem reportsOnly_takeEffects : ReportsOnly (s.setLink k { s.link k with
      hold := (s.link k).hold.drop n, silenceTimer := silence, replayCount := count, replayTimer := timer })
    (s.takeEffects k n silence count timer) := .foldl ReportsOnly.releaseEffect _ _

theorem State.link_takeEffects_self :
    let m := s.takeEffects k n silence count timer
    m.link k = { s.link k with
      hold := (s.link k).hold.drop n, silenceTimer := silence, replayCount := count, replayTimer := timer
      queue := (m.link k).queue, backlog := (m.link k).backlog } := by
  intro m
  have links := (reportsOnly_takeEffects s k n silence count timer).links k
  rwa [State.link_setLink_self] at links

/-- The effects of releases touch neither the arbiter nor the Command Unit nor the settings. -/
theorem State.takeEffects_frame :
    let m := s.takeEffects k n silence count timer
    m.arbiter = s.arbiter ∧ m.cu = s.cu ∧ m.timers = s.timers := by
  intro m
  obtain ⟨x, p, l, a, e⟩ := (reportsOnly_takeEffects s k n silence count timer).frame
  simp only [m, e]
  exact ⟨rfl, rfl, rfl⟩

theorem State.cell_takeEffects (u : TileIdx) (w : WallBand) : (s.takeEffects k n silence count timer).cell u w =
    CellRecord.acknowledge^[((s.link k).hold.take n).countP (liveRecordOf u w)] (s.cell u w) :=
  State.cell_releaseEffects _ _ u w

/-- Without a report the effects change cells alone (R62, R157). -/
theorem State.takeEffects_of_quiet (quiet : Quiet s ((s.link k).hold.take n)) : ∃ x,
    s.takeEffects k n silence count timer = { s.setLink k { s.link k with
      hold := (s.link k).hold.drop n, silenceTimer := silence, replayCount := count, replayTimer := timer } with cells := x } :=
  State.releaseEffects_of_quiet (s := s.setLink k _) quiet

end TakeEffects

/-- What released records leave, whatever becomes of the replay (R120, R122). -/
theorem released_withReplay {s : State} {k : Link} (up : (s.link k).state = .up) (n : Nat) (silence : Option Nat)
    (count : Nat) (timer : Option Nat) (point : Option SeqNo) (count' : Nat) (timer' : Option Nat) (e : CaptureEngine) :
    Released s ((s.takeEffects k n silence count timer).withReplay k point count' timer' e (s.arbiterLeaving k e)) k n := by
  have kept := s.link_takeEffects_self k n silence count timer
  have cells := s.cell_takeEffects k n silence count timer
  have quiet := s.takeEffects_of_quiet k n silence count timer
  obtain ⟨x, p, l, a, frame⟩ := (reportsOnly_takeEffects s k n silence count timer).frame
  generalize s.takeEffects k n silence count timer = m at kept cells quiet frame
  have self := m.link_withReplay_self k point count' timer' e (s.arbiterLeaving k e)
  have arbiter : s.arbiterLeaving k e = withdrawnWhenIdle s
      (m.withReplay k point count' timer' e (s.arbiterLeaving k e)) k := by rw [withdrawnWhenIdle_eq, self]
  rw [kept] at self
  simp only [Released, self, up, true_and]
  refine ⟨fun u w none => ?_, fun u w one => ?_, fun silent => ?_, ?_⟩
  · exact (cells u w).trans (by rw [none]; rfl)
  · have acknowledged : m.cell u w = (s.cell u w).acknowledge := (cells u w).trans (by rw [one]; rfl)
    have result : Acknowledged (s.cell u w) (m.cell u w) := acknowledged ▸ (s.cell u w).acknowledged
    exact result
  · obtain ⟨y, same⟩ := quiet silent
    have link : ∀ j, m.link j = _ := fun j => (congrArg (State.link · j) same).trans (s.link_setLink k j _)
    have present : m.present = s.present := by rw [same]; rfl
    have attention : m.attention = s.attention := by rw [same]; rfl
    refine ⟨present, attention, fun j other => ?_, ?_, ?_⟩
    · exact (m.link_withReplay_of_ne k _ _ _ _ _ other).trans ((link j).trans (if_neg other))
    · rw [link, if_pos rfl]
    · rw [link, if_pos rfl]
  · rw [frame] at arbiter ⊢
    exact ⟨rfl, rfl, rfl, rfl, rfl, rfl, rfl, rfl, rfl, rfl, rfl, rfl, arbiter⟩

/-- The replay count after n released records (R124). -/
def LinkSlice.countAfter (l : LinkSlice) (n : Nat) : Nat := if n = 0 then l.replayCount else 0

/-- The replay timer after n released records (R124). -/
def LinkSlice.timerAfter (l : LinkSlice) (n timeout : Nat) : Option Nat :=
  if n = 0 then l.replayTimer else if l.hold.length ≤ n then none else some timeout

/-- Whether a replay's point is among the n oldest records (R128). -/
def LinkSlice.pointReleased (l : LinkSlice) (n : Nat) : Prop := ∃ r ∈ l.hold.take n, l.replayPoint = some r.seq

section Release

variable {s : State} {k : Link} {n : Nat}

theorem replayPointAfter_of_released {l : LinkSlice} (gone : l.pointReleased n) :
    replayPointAfter l n = (l.hold.drop n).head?.map (·.seq) := if_pos gone

theorem replayPointAfter_of_not_released {l : LinkSlice} (stays : ¬ l.pointReleased n) :
    replayPointAfter l n = l.replayPoint := if_neg stays

theorem engineAfter_of_released (gone : (s.link k).pointReleased n) :
    engineAfter s k n = stoppedReRead (s.holds (.capture k)) (s.link k).engine := if_pos gone

theorem engineAfter_of_not_released (stays : ¬ (s.link k).pointReleased n) : engineAfter s k n = (s.link k).engine :=
  if_neg stays

theorem LinkSlice.not_pointReleased_zero (l : LinkSlice) : ¬ l.pointReleased 0 := by simp [LinkSlice.pointReleased]

theorem State.release_zero (s : State) (k : Link) : s.release k 0 = s := by simp [State.release]

/-- The release of some records, by whether the replay's point is among them (R120, R128). -/
theorem State.release_of_pos (records : (s.link k).hold.take n ≠ []) :
    ((s.link k).pointReleased n → s.release k n = ((s.releaseRecords k n).giveUpReRead k).updateLink k fun l =>
      { l with replayPoint := ((s.link k).hold.drop n).head?.map (·.seq) }) ∧
    (¬ (s.link k).pointReleased n → s.release k n = s.releaseRecords k n) := by
  have nonempty : ¬ ((s.link k).hold.take n).isEmpty = true := by simpa using records
  have unfolded : s.release k n = match (s.link k).replayPoint with
      | none => s.releaseRecords k n
      | some p =>
        if ((s.link k).hold.take n).any fun r => r.seq == p then
          ((s.releaseRecords k n).giveUpReRead k).updateLink k fun l =>
            { l with replayPoint := ((s.link k).hold.drop n).head?.map (·.seq) }
        else s.releaseRecords k n := if_neg nonempty
  rw [unfolded, LinkSlice.pointReleased]
  cases (s.link k).replayPoint with
  | none => exact ⟨fun ⟨_, _, point⟩ => (nomatch point), fun _ => rfl⟩
  | some p =>
    have found : (((s.link k).hold.take n).any fun r => r.seq == p) = true ↔
        ∃ r ∈ (s.link k).hold.take n, Option.some p = Option.some r.seq := by
      simp only [List.any_eq_true, beq_iff_eq, Option.some_inj, eq_comm (a := p)]
    exact ⟨fun gone => if_pos (found.mpr gone), fun stays => if_neg (found.not.mpr stays)⟩

theorem State.withReplay_self (s : State) (k : Link) : s.withReplay k (s.link k).replayPoint (s.link k).replayCount
    (s.link k).replayTimer (s.link k).engine s.arbiter = s :=
  congrArg (fun t : State => { t with arbiter := s.arbiter }) (s.setLink_self k)

theorem State.withReplay_withReplay {point point' : Option SeqNo} {count count' : Nat} {timer timer' : Option Nat}
    {e e' : CaptureEngine} {a a' : Arbiter} : (s.withReplay k point count timer e a).withReplay k point' count' timer' e' a' =
      s.withReplay k point' count' timer' e' a' := by
  rw [State.withReplay, State.link_withReplay_self]
  exact congrArg (fun t : State => { t with arbiter := a' }) (s.updateLink_setLink k _ fun _ => { s.link k with
    replayPoint := point', replayCount := count', replayTimer := timer', engine := e' })

/-- A replay goes on from another point, its re-read given up, as one change (R125, R128). -/
theorem State.giveUpReRead_moveReplay (s : State) (k : Link) (p : Option SeqNo) :
    let e := stoppedReRead (s.holds (.capture k)) (s.link k).engine
    ((s.giveUpReRead k).updateLink k fun l => { l with replayPoint := p }) =
      s.withReplay k p (s.link k).replayCount (s.link k).replayTimer e (s.arbiterLeaving k e) := by
  intro e
  rw [State.giveUpReRead_eq_setLink]
  simp only [State.updateLink, State.setLink, State.link, Vector.set_set, Fin.getElem_fin, Vector.getElem_set_self]
  rfl

/-- Records let go, their effects, and the silence timer as it was (R120, R124). -/
theorem State.releaseRecords_eq (released : n ≠ 0) : s.releaseRecords k n =
    s.takeEffects k n (s.link k).silenceTimer ((s.link k).countAfter n) ((s.link k).timerAfter n s.timers.replayTimeout) := by
  have count : (s.link k).countAfter n = 0 := if_neg released
  have timer : (s.link k).timerAfter n s.timers.replayTimeout =
      if ((s.link k).hold.drop n).isEmpty then none else some s.timers.replayTimeout := by
    simp only [LinkSlice.timerAfter, released, if_false, List.isEmpty_iff, List.drop_eq_nil_iff]
  rw [count, timer]
  rfl

/-- The release of n records as one change: their effects, and what becomes of the replay (R120, R124, R128). -/
theorem State.release_eq (inside : n ≤ (s.link k).hold.length) :
    let count := (s.link k).countAfter n
    let timer := (s.link k).timerAfter n s.timers.replayTimeout
    s.release k n = (s.takeEffects k n (s.link k).silenceTimer count timer).withReplay k (replayPointAfter (s.link k) n)
      count timer (engineAfter s k n) (s.arbiterLeaving k (engineAfter s k n)) := by
  intro count timer
  by_cases none : n = 0
  · subst none
    have stays := (s.link k).not_pointReleased_zero
    have unchanged : s.takeEffects k 0 (s.link k).silenceTimer count timer = s := s.setLink_self k
    rw [State.release_zero, replayPointAfter_of_not_released stays, engineAfter_of_not_released stays,
      State.arbiterLeaving_same, unchanged]
    exact (s.withReplay_self k).symm
  · have records : (s.link k).hold.take n ≠ [] := by
      rw [← List.length_pos_iff, List.length_take]
      omega
    have kept := s.link_takeEffects_self k n (s.link k).silenceTimer count timer
    obtain ⟨arbiter, -⟩ := s.takeEffects_frame k n (s.link k).silenceTimer count timer
    obtain ⟨released, stayed⟩ := State.release_of_pos records
    rw [State.releaseRecords_eq none] at released stayed
    generalize s.takeEffects k n (s.link k).silenceTimer count timer = m at kept arbiter released stayed
    have counted : (m.link k).replayCount = count := by rw [kept]
    have timed : (m.link k).replayTimer = timer := by rw [kept]
    have engine : (m.link k).engine = (s.link k).engine := by rw [kept]
    by_cases gone : (s.link k).pointReleased n
    · have leaving : m.arbiterLeaving k = s.arbiterLeaving k := by
        funext e
        rw [State.arbiterLeaving, engine, arbiter, State.arbiterLeaving]
      have holds : m.holds (.capture k) = s.holds (.capture k) := by rw [State.holds, arbiter, State.holds]
      rw [released gone, State.giveUpReRead_moveReplay, counted, timed, engine, holds, leaving,
        replayPointAfter_of_released gone, engineAfter_of_released gone]
    · have point : (m.link k).replayPoint = (s.link k).replayPoint := by rw [kept]
      rw [stayed gone, replayPointAfter_of_not_released gone, engineAfter_of_not_released gone, State.arbiterLeaving_same,
        ← point, ← engine, ← arbiter, ← counted, ← timed, State.withReplay_self]

end Release

/-! ### The numbers of held records (R91, R119) -/

section Numbers

variable {l : LinkSlice} {n d : Nat}

theorem seqNo_sub_inj {q : SeqNo} {a b : Nat} (ha : a ≤ 17) (hb : b ≤ 17)
    (same : q - BitVec.ofNat 12 a = q - BitVec.ofNat 12 b) : a = b := by
  have numbers := congrArg BitVec.toNat (sub_right_injective same)
  simp only [BitVec.toNat_ofNat] at numbers
  omega

/-- The place of a held record by its distance from the next number (R91). -/
theorem LinkSlice.heldAt_of_lt (consecutive : HoldConsecutive l) (bound : l.hold.length ≤ 16) (inside : n < l.hold.length) :
    l.heldAt (l.nextSeq - BitVec.ofNat 12 (l.hold.length - n)) = some n := by
  rw [holdConsecutive_iff] at consecutive
  refine List.findIdx?_eq_some_iff_getElem.mpr ⟨inside, ?_, fun j before => ?_⟩
  · rw [consecutive n inside]
    exact beq_self_eq_true _
  · rw [consecutive j (before.trans inside), beq_iff_eq]
    intro same
    have distance := seqNo_sub_inj (by omega) (by omega) same
    omega

/-- A number just below the held ones, or the next one, is no held record's (R91). -/
theorem LinkSlice.heldAt_eq_none (consecutive : HoldConsecutive l) (bound : l.hold.length ≤ 16)
    (outside : d = 0 ∨ d = l.hold.length + 1) : l.heldAt (l.nextSeq - BitVec.ofNat 12 d) = none := by
  rw [holdConsecutive_iff] at consecutive
  refine List.findIdx?_eq_none_iff.mpr fun r held => ?_
  obtain ⟨i, inside, rfl⟩ := List.getElem_of_mem held
  rw [consecutive i inside, beq_eq_false_iff_ne]
  intro same
  have distance := seqNo_sub_inj (by omega) (by omega) same
  omega

end Numbers

/-! ### What the notices take (R120, R121) -/

section Takes

variable {s : State} {k : Link} {n : Nat}

/-- An ACK in range releases the records it names (R120). -/
theorem State.takeAck_eq (consecutive : HoldConsecutive (s.link k)) (bound : (s.link k).hold.length ≤ 16)
    (inside : n ≤ (s.link k).hold.length) :
    s.takeAck k ((s.link k).nextSeq - BitVec.ofNat 12 ((s.link k).hold.length - n) - 1) = s.release k n := by
  have inRange : (s.link k).ackInRange
      ((s.link k).nextSeq - BitVec.ofNat 12 ((s.link k).hold.length - n) - 1) = true :=
    (LinkSlice.ackInRange_iff ..).mpr ⟨_, Nat.sub_le .., sub_right_comm ..⟩
  have number : (s.link k).nextSeq - BitVec.ofNat 12 ((s.link k).hold.length - n) - 1 =
      (s.link k).nextSeq - BitVec.ofNat 12 ((s.link k).hold.length - n + 1) := by
    rw [BitVec.ofNat_add, sub_sub]
    rfl
  rw [State.takeAck, if_pos inRange, number]
  cases n with
  | zero => rw [Nat.sub_zero, LinkSlice.heldAt_eq_none consecutive bound (.inr rfl), State.release_zero]
  | succ i =>
    have distance : (s.link k).hold.length - (i + 1) + 1 = (s.link k).hold.length - i := by omega
    rw [distance, LinkSlice.heldAt_of_lt consecutive bound inside]

/-- A NAK of the next number releases every record (R121). -/
theorem State.takeNak_next (consecutive : HoldConsecutive (s.link k)) (bound : (s.link k).hold.length ≤ 16) :
    s.takeNak k (s.link k).nextSeq = s.release k (s.link k).hold.length := by
  have number : (s.link k).nextSeq = (s.link k).nextSeq - BitVec.ofNat 12 0 := (sub_zero _).symm
  have inRange : (s.link k).nakInRange (s.link k).nextSeq = true :=
    (LinkSlice.nakInRange_iff ..).mpr ⟨0, Nat.zero_le _, number⟩
  have notHeld : (s.link k).heldAt (s.link k).nextSeq = none := by
    rw [number]
    exact LinkSlice.heldAt_eq_none consecutive bound (.inl rfl)
  rw [State.takeNak, if_pos inRange, notHeld]

/-- A NAK of a held record releases those before it and counts a replay from it (R121). -/
theorem State.takeNak_held (consecutive : HoldConsecutive (s.link k)) (bound : (s.link k).hold.length ≤ 16)
    (inside : n < (s.link k).hold.length) :
    let q := (s.link k).nextSeq - BitVec.ofNat 12 ((s.link k).hold.length - n)
    s.takeNak k q = (s.release k n).countReplay k q := by
  intro q
  have inRange : (s.link k).nakInRange q = true := (LinkSlice.nakInRange_iff ..).mpr ⟨_, Nat.sub_le .., rfl⟩
  rw [State.takeNak, if_pos inRange, LinkSlice.heldAt_of_lt consecutive bound inside]

end Takes

/-! ### The state after a notice in range (R108, R120, R121) -/

/-- What the count of a notice for the silence timer and the release of n records leave (R108, R120, R124, R128). -/
def State.afterRelease (s : State) (k : Link) (n : Nat) : State :=
  (s.takeEffects k n (some s.timers.silenceTimeout) ((s.link k).countAfter n)
    ((s.link k).timerAfter n s.timers.replayTimeout)).withReplay k (replayPointAfter (s.link k) n) ((s.link k).countAfter n)
    ((s.link k).timerAfter n s.timers.replayTimeout) (engineAfter s k n) (s.arbiterLeaving k (engineAfter s k n))

section AfterRelease

variable {s : State} {k : Link} {n : Nat}

theorem State.takeEffects_restartSilence (s : State) (k : Link) (n : Nat) (silence : Option Nat) (count : Nat)
    (timer : Option Nat) :
    (s.restartSilence k).takeEffects k n silence count timer = s.takeEffects k n silence count timer := by
  rw [State.takeEffects, State.link_restartSilence, State.takeEffects]
  congr 1
  exact s.updateLink_setLink k _ fun _ => { s.link k with
    hold := (s.link k).hold.drop n, silenceTimer := silence, replayCount := count, replayTimer := timer }

theorem State.release_restartSilence (inside : n ≤ (s.link k).hold.length) :
    (s.restartSilence k).release k n = s.afterRelease k n := by
  have link := s.link_restartSilence k
  have engine : engineAfter (s.restartSilence k) k n = engineAfter s k n := by
    rw [engineAfter, link, engineAfter]
    rfl
  have leaving : (s.restartSilence k).arbiterLeaving k = s.arbiterLeaving k := by
    funext e
    rw [State.arbiterLeaving, link, State.arbiterLeaving]
    rfl
  rw [State.release_eq (by rw [link]; exact inside), State.takeEffects_restartSilence, engine, leaving, link]
  rfl

theorem released_afterRelease (up : (s.link k).state = .up) (n : Nat) : Released s (s.afterRelease k n) k n :=
  released_withReplay up ..

/-- The replay, the engine and the silence timer that released records leave. -/
theorem State.link_afterRelease (s : State) (k : Link) (n : Nat) :
    ((s.afterRelease k n).link k).replayCount = (s.link k).countAfter n ∧
    ((s.afterRelease k n).link k).replayTimer = (s.link k).timerAfter n s.timers.replayTimeout ∧
    ((s.afterRelease k n).link k).replayPoint = replayPointAfter (s.link k) n ∧
    ((s.afterRelease k n).link k).engine = engineAfter s k n ∧
    ((s.afterRelease k n).link k).silenceTimer = some s.timers.silenceTimeout := by
  rw [State.afterRelease, State.link_withReplay_self, State.link_takeEffects_self]
  exact ⟨rfl, rfl, rfl, rfl, rfl⟩

theorem State.timers_afterRelease (s : State) (k : Link) (n : Nat) : (s.afterRelease k n).timers = s.timers :=
  (s.takeEffects_frame ..).2.2

theorem State.cu_afterRelease (s : State) (k : Link) (n : Nat) : (s.afterRelease k n).cu = s.cu :=
  (s.takeEffects_frame ..).2.1

theorem engineAfter_cases (s : State) (k : Link) (n : Nat) : engineAfter s k n = (s.link k).engine ∨
    engineAfter s k n = stoppedReRead (s.holds (.capture k)) (s.link k).engine := by
  unfold engineAfter
  split
  · exact .inr rfl
  · exact .inl rfl

/-- An engine whose re-read has been given up has none to give up again (R125). -/
theorem stoppedReRead_stoppedReRead (holding : Bool) (e : CaptureEngine) :
    stoppedReRead holding (stoppedReRead holding e) = stoppedReRead holding e := by
  cases e with
  | reRead q => cases holding <;> rfl
  | idle => rfl
  | dispatch t w b => rfl
  | abandonedDispatch => rfl
  | givenUpReRead => rfl

theorem State.holder_arbiterLeaving (s : State) (k : Link) (e : CaptureEngine) :
    (s.arbiterLeaving k e).holder = s.arbiter.holder := by
  unfold State.arbiterLeaving
  split <;> rfl

/-- A replay that begins after a release, as one change with the release (R121, R125). -/
theorem State.countReplay_afterRelease {q : SeqNo} (below : (s.link k).countAfter n < s.timers.replayLimit) :
    let e := stoppedReRead (s.holds (.capture k)) (s.link k).engine
    (s.afterRelease k n).countReplay k q = (s.takeEffects k n (some s.timers.silenceTimeout) ((s.link k).countAfter n)
      ((s.link k).timerAfter n s.timers.replayTimeout)).withReplay k (some q) ((s.link k).countAfter n + 1)
      (some s.timers.replayTimeout) e (s.arbiterLeaving k e) := by
  intro e
  obtain ⟨count, -, -, engine, -⟩ := s.link_afterRelease k n
  have arbiter : (s.afterRelease k n).arbiter = s.arbiterLeaving k (engineAfter s k n) := rfl
  have timers := s.timers_afterRelease k n
  have holds : (s.afterRelease k n).holds (.capture k) = s.holds (.capture k) := by
    rw [State.holds, arbiter, State.holder_arbiterLeaving, State.holds]
  have again : stoppedReRead (s.holds (.capture k)) (engineAfter s k n) = e ∧
      (s.afterRelease k n).arbiterLeaving k e = s.arbiterLeaving k e := by
    rw [State.arbiterLeaving, engine, arbiter]
    rcases engineAfter_cases s k n with same | stopped
    · rw [same, State.arbiterLeaving_same]
      exact ⟨rfl, rfl⟩
    · rw [stopped]
      exact ⟨stoppedReRead_stoppedReRead .., if_neg fun h => h.2 h.1⟩
  obtain ⟨engine', leaving⟩ := again
  rw [State.countReplay_begins (by rw [count, timers]; exact below), count, engine, holds, engine', leaving, timers]
  exact State.withReplay_withReplay ..

end AfterRelease

section InRange

variable {s : State} {k : Link} {n : Nat} (high : s.nReset = true) (up : (s.link k).state = .up)
  (consecutive : HoldConsecutive (s.link k)) (bound : (s.link k).hold.length ≤ 16)

include high up consecutive bound

/-- An ACK in range (R108, R120). -/
theorem exec_ackNotice_inRange (inside : n ≤ (s.link k).hold.length) :
    exec (.ackNotice k ((s.link k).nextSeq - BitVec.ofNat 12 ((s.link k).hold.length - n) - 1)) s =
      .next (s.afterRelease k n) := by
  have takes := State.takeAck_eq (s := s.restartSilence k) (k := k) (n := n)
  rw [State.link_restartSilence, State.release_restartSilence inside] at takes
  rw [exec_ackNotice_up high up]
  exact congrArg _ (takes consecutive bound inside)

/-- A NAK of the next number (R108, R121). -/
theorem exec_nakNotice_next :
    exec (.nakNotice k (s.link k).nextSeq) s = .next (s.afterRelease k (s.link k).hold.length) := by
  have takes := State.takeNak_next (s := s.restartSilence k) (k := k)
  rw [State.link_restartSilence, State.release_restartSilence le_rfl] at takes
  rw [exec_nakNotice_up high up]
  exact congrArg _ (takes consecutive bound)

/-- A NAK of a held record (R108, R121). -/
theorem exec_nakNotice_held (inside : n < (s.link k).hold.length) :
    let q := (s.link k).nextSeq - BitVec.ofNat 12 ((s.link k).hold.length - n)
    exec (.nakNotice k q) s = .next ((s.afterRelease k n).countReplay k q) := by
  intro q
  have takes := State.takeNak_held (s := s.restartSilence k) (k := k) (n := n)
  rw [State.link_restartSilence, State.release_restartSilence inside.le] at takes
  rw [exec_nakNotice_up high up]
  exact congrArg _ (takes consecutive bound inside)

end InRange

/-- Settles O39: an ACK and a NAK release records; a NAK of a held one counts a replay after that, which begins or loses the link. -/
theorem acknowledgementsReleaseHeldRecords : Obligations.AcknowledgementsReleaseHeldRecords := by
  intro k s high up consecutive bound l timerAfter countAfter
  have released := released_afterRelease up
  have link := s.link_afterRelease k
  refine ⟨fun n inside => ?_, ?_, fun n inside below => ?_, fun n inside above => ?_⟩
  · exact ⟨_, exec_ackNotice_inRange high up consecutive bound inside, released n, link n⟩
  · exact ⟨_, exec_nakNotice_next high up consecutive bound, released _, link _⟩
  · have run := (exec_nakNotice_held high up consecutive bound inside).trans
      (congrArg _ (State.countReplay_afterRelease below))
    refine ⟨_, run, released_withReplay up .., ?_⟩
    rw [State.link_withReplay_self, State.link_takeEffects_self]
    exact ⟨rfl, rfl, rfl, rfl, rfl⟩
  · obtain ⟨count, -, -, engine, -⟩ := link n
    have limit : (s.afterRelease k n).timers.replayLimit ≤ ((s.afterRelease k n).link k).replayCount := by
      rw [count, s.timers_afterRelease]
      exact above
    obtain ⟨lost, cu⟩ := State.countReplay_loses (q := l.nextSeq - BitVec.ofNat 12 (l.hold.length - n)) limit
    exact ⟨s.afterRelease k n, _, exec_nakNotice_held high up consecutive bound inside, released n, engine, lost,
      cu.trans (s.cu_afterRelease k n)⟩

end Sys2Proof.Machine

/-! ## What every operation leaves of the credit (R139, R141, R148) -/

namespace Sys2Proof.Machine

open Sys2Proof.Safety

/-! ### The credit law of one record (R139) -/

theorem creditLaw_iff (r : PositionRecord) : CreditLaw r ↔
    (r.present = true → r.credit + r.outstanding = r.capacity) ∧
      (r.present = false → r.credit = 0 ∧ r.outstanding = 0) := by
  cases present : r.present <;> simp [CreditLaw, present]

theorem creditLaw_of_positionAbsent {r : PositionRecord} (absent : PositionAbsent r) : CreditLaw r := by
  obtain ⟨present, credit, outstanding⟩ := absent
  simp [CreditLaw, present, credit, outstanding]

/-- A position loads with all its credit (R140). -/
theorem creditLaw_loaded (capacity restart : Nibble) : CreditLaw (.loaded capacity restart) := by
  simp [CreditLaw, PositionRecord.loaded]

/-- A return gives back outstanding slots only (R144, R145). -/
theorem creditLaw_returnCredit {r : PositionRecord} (law : CreditLaw r) (d : Nat) (freed shown : Byte) :
    CreditLaw (r.returnCredit d freed shown) := by
  rw [creditLaw_iff] at law ⊢
  obtain ⟨full, zero⟩ := law
  refine ⟨fun present => ?_, fun absent => ?_⟩
  · have before := full present
    simp only [PositionRecord.returnCredit]
    omega
  · have before := zero absent
    simp only [PositionRecord.returnCredit]
    omega

/-- Credit that is there can be taken (R141). -/
theorem creditLaw_takeCredit {r : PositionRecord} (law : CreditLaw r) (credit : 1 ≤ r.credit) : CreditLaw r.takeCredit := by
  rw [creditLaw_iff] at law ⊢
  obtain ⟨full, zero⟩ := law
  refine ⟨fun present => ?_, fun absent => ?_⟩
  · have before := full present
    simp only [PositionRecord.takeCredit]
    omega
  · obtain ⟨none, -⟩ := zero absent
    omega

/-! ### One link -/

/-- The credit law goes from one slice to another at every position; a dispatch in progress was one of the same tile before, and
no credit has gone since. -/
structure LinkCredit (l l' : LinkSlice) : Prop where
  law : ∀ p, CreditLaw (l.position p) → CreditLaw (l'.position p)
  dispatch : ∀ t w b, l'.engine = .dispatch t w b →
    (∃ w' b', l.engine = .dispatch t w' b') ∧ ∀ p, (l.position p).credit ≤ (l'.position p).credit

namespace LinkCredit

variable {l l' l'' : LinkSlice}

theorem trans (h : LinkCredit l l') (g : LinkCredit l' l'') : LinkCredit l l'' := by
  refine ⟨fun p => g.law p ∘ h.law p, fun t w b engine => ?_⟩
  obtain ⟨⟨w', b', middle⟩, later⟩ := g.dispatch t w b engine
  obtain ⟨first, earlier⟩ := h.dispatch t w' b' middle
  exact ⟨first, fun p => (earlier p).trans (later p)⟩

/-- Where a capture engine has no dispatch, only the law counts. -/
theorem of_workless (law : ∀ p, CreditLaw (l.position p) → CreditLaw (l'.position p)) (workless : l'.engine.workless) :
    LinkCredit l l' := ⟨law, fun _ _ _ engine => absurd engine (CaptureEngine.not_dispatch_of_workless workless)⟩

/-- The positions stay, and the capture engine goes on or gives up. -/
theorem of_stop (positions : l'.positions = l.positions) (engine : l'.engine = l.engine ∨ l'.engine.workless) :
    LinkCredit l l' := by
  have position : ∀ p, l'.position p = l.position p := fun p => by simp only [LinkSlice.position, positions]
  rcases engine with same | workless
  · exact ⟨fun p law => by rwa [position], fun t w b goes => ⟨⟨w, b, same ▸ goes⟩, fun p => by rw [position]⟩⟩
  · exact of_workless (fun p law => by rwa [position]) workless

/-- Neither the positions nor the capture engine change. -/
theorem of_eq (positions : l'.positions = l.positions) (engine : l'.engine = l.engine) : LinkCredit l l' :=
  of_stop positions (.inl engine)

theorem refl (l : LinkSlice) : LinkCredit l l := of_eq rfl rfl

/-- Every position has become absent, and no dispatch goes on (R131, R137, R148). -/
theorem of_absent (absent : ∀ p, PositionAbsent (l'.position p)) (workless : l'.engine.workless) : LinkCredit l l' :=
  of_workless (fun p _ => creditLaw_of_positionAbsent (absent p)) workless

/-- A return of credit at one position (R144, R145). -/
theorem returnCredit (l : LinkSlice) (p : Position) (d : Nat) (freed shown : Byte) :
    LinkCredit l (l.setPosition p ((l.position p).returnCredit d freed shown)) := by
  refine ⟨fun q law => ?_, fun t w b engine => ⟨⟨w, b, engine⟩, fun q => ?_⟩⟩
  · rw [LinkSlice.position_setPosition]
    split
    · next same => exact creditLaw_returnCredit (same ▸ law) d freed shown
    · exact law
  · rw [LinkSlice.position_setPosition]
    split
    · next same =>
      rw [same]
      exact Nat.le_add_right ..
    · exact Nat.le_refl _

end LinkCredit

/-! ### The whole block -/

/-- No credit is taken on any link and no dispatch begins, and the tiles keep their chain positions. -/
structure SteadyCredit (s t : State) : Prop where
  links : ∀ k, LinkCredit (s.link k) (t.link k)
  tiles : ∀ u, (t.tile u).position = (s.tile u).position

namespace SteadyCredit

variable {s t u : State}

theorem creditSound (h : SteadyCredit s t) (hs : CreditSound s) : CreditSound t := by
  obtain ⟨laws, credit⟩ := hs
  refine ⟨fun k p => (h.links k).law p (laws k p), fun k v w b engine => ?_⟩
  obtain ⟨⟨w', b', before⟩, more⟩ := (h.links k).dispatch v w b engine
  rw [CreditAt, h.tiles]
  exact (credit k v w' b' before).trans (more _)

/-- Neither links nor tiles change. -/
theorem of_eq (links : t.links = s.links) (tiles : t.tiles = s.tiles) : SteadyCredit s t := by
  refine ⟨fun k => ?_, fun v => by simp only [State.tile, tiles]⟩
  have same : t.link k = s.link k := by simp only [State.link, links]
  rw [same]
  exact .refl _

theorem refl (s : State) : SteadyCredit s s := of_eq rfl rfl

theorem trans (h : SteadyCredit s t) (g : SteadyCredit t u) : SteadyCredit s u :=
  ⟨fun k => (h.links k).trans (g.links k), fun v => (g.tiles v).trans (h.tiles v)⟩

/-- What keeps the credit from a state on with the same links and tiles. -/
theorem after (g : SteadyCredit t u) (links : t.links = s.links) (tiles : t.tiles = s.tiles) : SteadyCredit s u :=
  (of_eq links tiles).trans g

theorem foldl {α : Type} {f : State → α → State} (h : ∀ s a, SteadyCredit s (f s a)) (l : List α) (s : State) :
    SteadyCredit s (l.foldl f s) := by
  induction l generalizing s with
  | nil => exact refl s
  | cons a l ih => exact (h s a).trans (ih _)

/-- One link changes, beside what else the state tells of other blocks. -/
theorem of_setLink {k : Link} {l : LinkSlice} (links : t.links = (s.setLink k l).links) (tiles : t.tiles = s.tiles)
    (credit : LinkCredit (s.link k) l) : SteadyCredit s t := by
  refine ⟨fun j => ?_, fun v => by simp only [State.tile, tiles]⟩
  have link : t.link j = (s.setLink k l).link j := by simp only [State.link, links]
  rw [link, State.link_setLink]
  split
  · next same =>
    rw [same]
    exact credit
  · exact .refl _

/-- One link changes, but for its positions and its capture engine. -/
theorem updateLink {k : Link} {f : LinkSlice → LinkSlice} (s : State) (positions : (f (s.link k)).positions = (s.link k).positions)
    (engine : (f (s.link k)).engine = (s.link k).engine) : SteadyCredit s (s.updateLink k f) :=
  of_setLink rfl rfl (.of_eq positions engine)

/-- A transmitter changes alone. -/
theorem updateTx (s : State) (k : Link) {f : LinkSlice → LinkSlice} (h : ∀ l, ∃ tx, f l = { l with tx := tx }) :
    SteadyCredit s (s.updateLink k f) := by
  obtain ⟨tx, e⟩ := h (s.link k)
  exact .updateLink s (by rw [e]) (by rw [e])

end SteadyCredit

/-- Reports of releases change queues and backlogs only. -/
theorem ReportsOnly.steadyCredit {s t : State} (h : ReportsOnly s t) : SteadyCredit s t := by
  obtain ⟨⟨x, p, l, a, e⟩, links⟩ := h
  refine ⟨fun k => ?_, fun u => by rw [e]; rfl⟩
  rw [links]
  exact .of_eq rfl rfl

end Sys2Proof.Machine

/-! ## What takes no credit and begins no dispatch -/

namespace Sys2Proof.Machine

open Sys2Proof.Safety

/-! ### The window side and the sweep (R10, R12, R34) -/

theorem steadyCredit_runHeld (held : List HeldOp) (s : State) : SteadyCredit s (State.runHeld held s) := by
  induction held generalizing s with
  | nil => exact .of_eq rfl rfl
  | cons op rest ih =>
    cases op with
    | pixelRead =>
      simp only [State.runHeld, State.readLatch_eq]
      split
      · exact .after (ih _) rfl rfl
      · exact .of_eq rfl rfl
    | setMode o m => exact .after (ih _) rfl rfl
    | pixelWrite _ => exact .of_eq rfl rfl
    | setWindow _ => exact .of_eq rfl rfl
    | setPointer _ _ => exact .of_eq rfl rfl
    | fillStart => exact .of_eq rfl rfl

theorem steadyCredit_takeWindowOp (s : State) (op : HeldOp) : SteadyCredit s (s.takeWindowOp op) := by
  simp only [State.takeWindowOp]
  split
  · exact steadyCredit_runHeld _ s
  · exact .of_eq rfl rfl

theorem steadyCredit_writePixelData (s : State) (v : Word) : SteadyCredit s (s.writePixelData v) := by
  unfold State.writePixelData
  split
  · exact .of_eq rfl rfl
  · exact .after (steadyCredit_takeWindowOp _ _) rfl rfl

theorem steadyCredit_readPixelData (s : State) : SteadyCredit s s.readPixelData := by
  unfold State.readPixelData
  split
  · exact .of_eq rfl rfl
  · exact .after (steadyCredit_takeWindowOp _ _) rfl rfl

theorem steadyCredit_endLoad (s : State) (cause : LoadCause) : SteadyCredit s (s.endLoad cause) := by
  rw [State.endLoad_eq]
  refine .after (steadyCredit_runHeld _ _) ?_ ?_
  all_goals cases cause <;> rfl

theorem steadyCredit_sweepPass (s : State) : SteadyCredit s s.sweepPass := by
  unfold State.sweepPass
  split
  · next w rest _ =>
    have swept : SteadyCredit s (s.sweepBand w) := .of_eq rfl rfl
    simp only []
    generalize s.sweepBand w = u at swept
    split <;> exact swept.trans (.of_eq rfl rfl)
  · exact .refl s

theorem steadyCredit_mapCommand (s : State) (m : BandMap) : SteadyCredit s (s.mapCommand m) := by
  unfold State.mapCommand
  split <;> exact .of_eq rfl rfl

/-! ### Presents, queries and the Walker (R41, R49, R71, R152 to R158) -/

theorem steadyCredit_endPresent (s : State) (o : PresentOutcome) (t : Option TileIdx) : SteadyCredit s (s.endPresent o t) := by
  obtain ⟨x, p, a, e⟩ := s.endPresent_frame o t
  rw [e]
  exact .of_eq rfl rfl

theorem steadyCredit_cut (s : State) : SteadyCredit s s.cut := by
  have marked : ∀ S p, SteadyCredit s { s.setMarks S with present := p } := fun S p => .of_eq rfl rfl
  simp only [State.cut]
  split
  · exact (marked _ _).trans (ReportsOnly.enterShowing _).steadyCredit
  · exact marked _ _

theorem steadyCredit_startQuery (s : State) (t : TileIdx) : SteadyCredit s (s.startQuery t) :=
  .of_setLink (k := (s.tile t).link) rfl rfl (.of_eq rfl rfl)

theorem steadyCredit_examine (s : State) : SteadyCredit s s.examine := by
  simp only [State.examine]
  split
  · exact .of_setLink (k := (s.tile s.walker.tile).link) rfl rfl (.of_eq rfl rfl)
  · exact .of_eq rfl rfl

/-! ### Attempts and loss (R115, R118, R131 to R134) -/

section Links

variable (s : State) (k : Link)

theorem steadyCredit_beginAttempt : SteadyCredit s (s.beginAttempt k) := by
  obtain ⟨tx, e⟩ := (s.link k).beginAttempt_eq s.timers.attemptTime
  exact .updateLink s (by rw [e]) (by rw [e])

theorem steadyCredit_freshAttempt : SteadyCredit s (s.freshAttempt k) :=
  (SteadyCredit.updateLink s rfl rfl).trans (steadyCredit_beginAttempt _ k)

theorem steadyCredit_attemptTimedOut : SteadyCredit s (s.attemptTimedOut k) := by
  have counted : SteadyCredit s (s.updateLink k fun l => { l with attemptCount := (s.link k).attemptCount + 1 }) :=
    .updateLink s rfl rfl
  simp only [State.attemptTimedOut]
  split
  · exact counted.trans (.of_setLink (k := k) rfl rfl (.of_eq rfl rfl))
  · exact counted.trans (steadyCredit_beginAttempt _ k)

theorem steadyCredit_switchOff : SteadyCredit s (s.updateLink k (·.switchOff)) := .updateLink s rfl rfl

theorem steadyCredit_loseLink (reason : LossReason) (off : Bool) : SteadyCredit s (s.loseLink k reason off) := by
  refine ⟨fun j => ?_, fun u => ?_⟩
  · by_cases lost : j = k
    · rw [lost, State.link_loseLink_self]
      exact .of_absent (positionAbsent_allAbsent (s.link k)) (CaptureEngine.workless_stoppedEngine ..)
    · rw [State.link_loseLink, if_neg lost]
      exact .refl _
  · rw [State.tile_loseLink]
    split <;> rfl

/-! ### Acknowledgement and replay (R119 to R128) -/

theorem steadyCredit_giveUpReRead : SteadyCredit s (s.giveUpReRead k) := by
  obtain ⟨a, e⟩ := s.giveUpReRead_eq k
  rw [e]
  exact .of_setLink (k := k) rfl rfl (.of_stop rfl (stoppedReRead_cases _ _))

theorem steadyCredit_freeEngine : SteadyCredit s (s.freeEngine k) :=
  .of_setLink (k := k) rfl rfl (.of_stop rfl (.inr (.inl rfl)))

theorem steadyCredit_releaseRecords (n : Nat) : SteadyCredit s (s.releaseRecords k n) := by
  have dropped : SteadyCredit s (s.setLink k ((s.link k).dropRecords n s.timers.replayTimeout)) :=
    .of_setLink rfl rfl (.of_eq rfl rfl)
  exact dropped.trans (ReportsOnly.foldl ReportsOnly.releaseEffect _ _).steadyCredit

theorem steadyCredit_release (n : Nat) : SteadyCredit s (s.release k n) := by
  have records := steadyCredit_releaseRecords s k n
  rcases s.release_cases k n with ⟨-, e⟩ | ⟨-, -, e⟩ | ⟨-, e⟩
  · rw [e]
    exact .refl s
  · rw [e]
    exact records
  · rw [e]
    exact (records.trans (steadyCredit_giveUpReRead _ k)).trans (.updateLink _ rfl rfl)

theorem steadyCredit_countReplay (q : SeqNo) : SteadyCredit s (s.countReplay k q) := by
  have counted : SteadyCredit s (s.updateLink k fun l => { l with replayCount := (s.link k).replayCount + 1 }) :=
    .updateLink s rfl rfl
  simp only [State.countReplay]
  split
  · exact counted.trans (steadyCredit_loseLink _ k _ _)
  · exact (counted.trans (steadyCredit_giveUpReRead _ k)).trans (.updateLink _ rfl rfl)

theorem steadyCredit_replayTimedOut : SteadyCredit s (s.replayTimedOut k) := by
  unfold State.replayTimedOut
  split
  · exact steadyCredit_countReplay s k _
  · exact .refl s

theorem steadyCredit_setStray : SteadyCredit s (s.updateLink k (·.setStray)) := .updateLink s rfl rfl

theorem steadyCredit_takeAck (q : SeqNo) : SteadyCredit s (s.takeAck k q) := by
  simp only [State.takeAck]
  split
  · split
    · exact steadyCredit_release s k _
    · exact .refl s
  · exact steadyCredit_setStray s k

theorem steadyCredit_takeNak (q : SeqNo) : SteadyCredit s (s.takeNak k q) := by
  simp only [State.takeNak]
  split
  · split
    · exact (steadyCredit_release s k _).trans (steadyCredit_countReplay _ k q)
    · exact steadyCredit_release s k _
  · exact steadyCredit_setStray s k

theorem steadyCredit_retransmit : SteadyCredit s (s.retransmit k) := by
  unfold State.retransmit
  split
  · exact .refl s
  · split
    · exact .of_setLink (k := k) rfl rfl ⟨fun _ => id, fun _ _ _ engine => nomatch engine⟩
    all_goals exact .updateLink s rfl rfl

theorem steadyCredit_endReRead : SteadyCredit s (s.endReRead k) := by
  unfold State.endReRead
  split
  · split
    · exact (SteadyCredit.updateLink s rfl rfl).trans (steadyCredit_freeEngine _ k)
    · exact steadyCredit_freeEngine s k
  · exact steadyCredit_freeEngine s k
  all_goals exact .refl s

/-! ### Notices (R102, R108, R142 to R146) -/

/-- A valid notice that its block takes. -/
theorem steadyCredit_notice {f : State → State} (hf : ∀ s, SteadyCredit s (f s)) : SteadyCredit s (s.notice k f) := by
  unfold State.notice
  split
  · exact (SteadyCredit.updateLink s rfl rfl).trans (hf _)
  all_goals exact .refl s

theorem steadyCredit_badNotice : SteadyCredit s (s.badNotice k) := by
  unfold State.badNotice
  split
  · exact .updateLink s rfl rfl
  · exact .updateLink s rfl rfl
  all_goals exact .refl s

theorem steadyCredit_takeTileStatus (p : Position) (freed : Byte) (restart : Nibble) (shown : Byte) :
    SteadyCredit s (s.takeTileStatus k p freed restart shown) := by
  simp only [State.takeTileStatus]
  split
  · exact steadyCredit_setStray s k
  · split
    · exact steadyCredit_loseLink s k _ _
    · have returned : ∀ d, SteadyCredit s (s.updateLink k (·.setPosition p (((s.link k).position p).returnCredit d freed shown))) :=
        fun d => .of_setLink rfl rfl (.returnCredit _ p d freed shown)
      split
      · exact (returned _).trans (.of_setLink (k := k) rfl rfl (.of_eq rfl rfl))
      · exact returned _

theorem steadyCredit_takeReport (p : Position) (tag : Byte) (capacity : Nibble) (shown : Byte) (restart : Nibble)
    (word : BitVec 32) : SteadyCredit s (s.takeReport k p tag capacity shown restart word) := by
  unfold State.takeReport
  split
  · exact .of_eq rfl rfl
  · exact steadyCredit_setStray s k

/-! ### Tile states and SOFT RESET (R43, R44, R47, R137) -/

theorem steadyCredit_setTile_state (t : TileIdx) (state : TileState) :
    SteadyCredit s (s.setTile t { s.tile t with state := state }) := by
  refine ⟨fun _ => .refl _, fun u => ?_⟩
  rw [State.tile_setTile]
  split
  · next same => rw [same]
  · rfl

theorem steadyCredit_disableTile (t : TileIdx) : SteadyCredit s (s.disableTile t) := by
  by_cases active : (s.tile t).isActive = true
  · obtain ⟨x, p, q, a, n, e⟩ := State.disableTile_active_frame active
    have engine : s.engineWithout t = (s.link (s.tile t).link).engine ∨ (s.engineWithout t).workless := by
      simp only [State.engineWithout]
      split
      · exact .inr (CaptureEngine.workless_stoppedEngine ..)
      · exact .inl rfl
    have without : SteadyCredit s (s.withoutTile t) :=
      (steadyCredit_setTile_state s t .disabled).trans
        (.of_setLink (k := (s.tile t).link) rfl rfl (.of_stop rfl engine))
    rw [e]
    exact without.trans (.of_eq rfl rfl)
  · rw [State.disableTile, if_neg active]
    exact steadyCredit_setTile_state s t .disabled

theorem LinkSlice.positionAbsent_softReset (l : LinkSlice) (time : Nat) (p : Position) :
    PositionAbsent ((l.softReset time).position p) := by
  have positions : (l.softReset time).positions = l.allAbsent.positions := by
    unfold LinkSlice.softReset
    simp only []
    split
    · rfl
    all_goals
      obtain ⟨tx, e⟩ := LinkSlice.beginAttempt_eq _ time
      rw [e]
      rfl
  rw [LinkSlice.position, positions]
  exact positionAbsent_allAbsent l p

theorem steadyCredit_softResetLink : SteadyCredit s (s.softResetLink k) := by
  obtain ⟨w, e, -⟩ := s.stopEngine_eq k
  have stopped : SteadyCredit s ((s.abandonDispatch k).giveUpReRead k) := by
    rw [e]
    exact .of_setLink (k := k) rfl rfl (.of_stop rfl (.inr (CaptureEngine.workless_stoppedEngine ..)))
  have workless : (((s.abandonDispatch k).giveUpReRead k).link k).engine.workless := by
    have engine : (((s.abandonDispatch k).giveUpReRead k).link k).engine =
        stoppedEngine (s.holds (.capture k)) (s.link k).engine := by
      rw [e]
      exact congrArg LinkSlice.engine (s.link_setLink_self k _)
    rw [engine]
    exact CaptureEngine.workless_stoppedEngine ..
  refine stopped.trans (.of_setLink (k := k) rfl rfl (.of_absent (LinkSlice.positionAbsent_softReset _ _) ?_))
  rw [LinkSlice.engine_softReset]
  exact workless

theorem steadyCredit_softReset : SteadyCredit s s.softReset := by
  have links : SteadyCredit s ((List.finRange 4).foldl State.softResetLink s) := .foldl steadyCredit_softResetLink _ s
  unfold State.softReset
  generalize (List.finRange 4).foldl State.softResetLink s = u at links
  refine links.trans ⟨fun _ => .refl _, fun t => ?_⟩
  have position : ∀ r : TileRecord, r.softReset.position = r.position := fun r => by
    unfold TileRecord.softReset
    split <;> rfl
  simp only [State.tile, Fin.getElem_fin, Vector.getElem_map, position]

end Links

end Sys2Proof.Machine

/-! ## What takes credit, begins a dispatch, loads a position or moves a tile (R42, R85 to R89, R140, R141) -/

namespace Sys2Proof.Machine

open Sys2Proof.Safety

/-! ### Dispatch (R85 to R89, R141) -/

/-- The slice of link k changes, its dispatch having its credit. -/
theorem creditSound_setLink {s : State} {k : Link} {l : LinkSlice} (hs : CreditSound s)
    (law : ∀ p, CreditLaw (l.position p))
    (dispatch : ∀ t w b, l.engine = .dispatch t w b → 1 ≤ (l.position (s.tile t).position).credit) :
    CreditSound (s.setLink k l) := by
  obtain ⟨laws, credit⟩ := hs
  refine ⟨fun j => ?_, fun j => ?_⟩
  · rw [State.link_setLink]
    split
    · exact law
    · exact laws j
  · simp only [CreditAt, State.link_setLink]
    split
    · exact dispatch
    · exact credit j

/-- A completed dispatch takes a credit where its frame takes a slot (R86, R89, R141). -/
theorem LinkSlice.position_completedLink (s : State) (k : Link) (e : Entry) (body : HoldBody) (payload : List Word)
    (p : Position) : (completedLink s k e body payload).position p =
      if body.takesSlot = true ∧ p = (s.tile e.tile).position then ((s.link k).position p).takeCredit
      else (s.link k).position p := by
  cases takes : body.takesSlot with
  | false => simp [completedLink, takes, LinkSlice.position]
  | true =>
    have set := (s.link k).position_setPosition (s.tile e.tile).position p
      ((s.link k).position (s.tile e.tile).position).takeCredit
    have same : (completedLink s k e body payload).position p = ((s.link k).setPosition (s.tile e.tile).position
        ((s.link k).position (s.tile e.tile).position).takeCredit).position p := by
      simp only [completedLink, takes, if_true]
      rfl
    rw [same, set]
    by_cases here : p = (s.tile e.tile).position
    · simp [here]
    · simp [here]

theorem creditSound_completeDispatch {s : State} {k : Link} {e : Entry} {body : HoldBody} {payload : List Word}
    (hs : CreditSound s) (credit : body.takesSlot = true → CreditAt s k e.tile) :
    CreditSound (s.completeDispatch k e body payload) := by
  obtain ⟨x, eq⟩ := s.completeDispatch_eq k e body payload
  have completed : CreditSound (s.setLink k (completedLink s k e body payload)) := by
    refine creditSound_setLink hs (fun p => ?_) fun _ _ _ engine => nomatch engine
    rw [LinkSlice.position_completedLink]
    split
    · next taken =>
      obtain ⟨takes, rfl⟩ := taken
      exact creditLaw_takeCredit (hs.1 k _) (credit takes)
    · exact hs.1 k p
  rw [eq]
  exact (SteadyCredit.of_eq rfl rfl).creditSound completed

theorem creditSound_askCapture {s : State} {k : Link} {t : TileIdx} (hs : CreditSound s) (credit : CreditAt s k t)
    (w : WallBand) (b : StoreBand) : CreditSound (s.askCapture k t w b) := by
  have asked : CreditSound (s.setLink k { s.link k with engine := .dispatch t w b }) :=
    creditSound_setLink hs (hs.1 k) fun _ _ _ engine => by
      cases engine
      exact credit
  exact (SteadyCredit.of_eq rfl rfl).creditSound asked

/-- A selected CELL entry has credit at its tile's chain position (R85). -/
theorem creditAt_of_eligible {s : State} {k : Link} {t : TileIdx} {w : WallBand} (selected : s.eligible k = some (.cell t w)) :
    CreditAt s k t := by
  obtain ⟨_, _, -, -, credit, -⟩ := (oldestEligibleEntryIsSelected s k).1 _ selected
  exact credit t w rfl

theorem creditSound_select {s : State} (hs : CreditSound s) (k : Link) : CreditSound (s.select k) := by
  unfold State.select
  split
  · split
    · exact hs
    · next selected =>
      split
      · exact creditSound_completeDispatch hs fun _ => creditAt_of_eligible selected
      · exact creditSound_askCapture hs (creditAt_of_eligible selected) _ _
    · exact creditSound_completeDispatch hs fun takes => nomatch takes
    · exact creditSound_completeDispatch hs fun takes => nomatch takes
  · exact hs

/-- A dispatch in progress has kept its credit until its grant ends (R85, R88, R89). -/
theorem creditSound_endCapture {s : State} (hs : CreditSound s) (k : Link) : CreditSound (s.endCapture k) := by
  have released : ∀ {u : State}, CreditSound u → CreditSound u.releaseGrant := (SteadyCredit.of_eq rfl rfl).creditSound
  unfold State.endCapture
  split
  · next t w b engine =>
    have credit : CreditAt s k t := hs.2 k t w b engine
    split
    · exact released (creditSound_completeDispatch hs fun _ => credit)
    · split
      · exact released (creditSound_completeDispatch hs fun _ => credit)
      · exact creditSound_askCapture (released hs) credit _ _
  · exact (steadyCredit_freeEngine s k).creditSound hs
  all_goals exact hs

/-! ### The entry to UP (R117, R140) -/

/-- Positions load on a link that comes UP, whose capture engine has no dispatch. -/
theorem steadyCredit_enterUp {s : State} {k : Link} {n : BitVec 3} {capacity restart : Vector Nibble 4}
    (workless : (s.link k).engine.workless) : SteadyCredit s (s.enterUp k n capacity restart) := by
  refine ⟨fun j => ?_, fun u => ?_⟩
  · rw [State.link_enterUp]
    split
    · next same =>
      rw [same]
      refine .of_workless (fun p law => ?_) (by rw [LinkSlice.engine_handHello]; exact workless)
      rw [LinkSlice.position_handHello, LinkSlice.position_enterUp]
      split
      · exact creditLaw_loaded _ _
      · exact law
    · exact .refl _
  · rw [State.tile_enterUp]
    split <;> rfl

theorem steadyCredit_takeHello {s : State} (hl : LinksSound s) (k : Link) (seen : Bool) (n : BitVec 3)
    (capacity restart : Vector Nibble 4) : SteadyCredit s (s.takeHello k seen n capacity restart) := by
  unfold State.takeHello
  split
  · split
    · next training =>
      obtain ⟨-, -, -, -, -, workless⟩ := (linkRules_of_linksSound hl k).idle (by simp [training])
      have heard : SteadyCredit s (s.updateLink k fun l => { l with partnerHeard := true }) := .updateLink s rfl rfl
      simp only []
      split
      · exact heard.trans (steadyCredit_enterUp (by rwa [State.link_updateLink_self]))
      · exact heard
    · exact (SteadyCredit.updateLink s rfl rfl).trans (steadyCredit_loseLink _ k _ _)
    all_goals exact .refl s
  · exact steadyCredit_badNotice s k

/-! ### TILE SET (R42) -/

/-- A dispatch in progress is of an ACTIVE tile, so that a tile that is not may change its chain position. -/
theorem creditSound_setTile {s : State} {v : TileIdx} {r : TileRecord} (hl : LinksSound s) (hs : CreditSound s)
    (off : (s.tile v).isActive = false) : CreditSound (s.setTile v r) := by
  obtain ⟨laws, credit⟩ := hs
  refine ⟨laws, fun k t w b engine => ?_⟩
  have inQueue := ((linkRules_of_linksSound hl k).dispatch t w b engine).1
  have active : (s.tile t).isActive = true := (hl.2.2.1 k (.cell t w) (List.mem_append_left _ inQueue)).1
  have other : t ≠ v := by
    rintro rfl
    simp [off] at active
  rw [CreditAt, State.tile_setTile, if_neg other]
  exact credit k t w b engine

end Sys2Proof.Machine

/-! ## Every command keeps the credit law and the credit of a dispatch in progress (R85, R139, R141) -/

namespace Sys2Proof.Machine

open Sys2Proof.Safety

/-- The rules of credit go from one state to another where those of the links hold. -/
def CreditKept (s t : State) : Prop := LinksSound s → CreditSound s → CreditSound t

theorem SteadyCredit.creditKept {s t : State} (h : SteadyCredit s t) : CreditKept s t := fun _ => h.creditSound

namespace CreditKept

variable {s t u : State}

theorem refl (s : State) : CreditKept s s := fun _ => id

/-- Neither links nor tiles change. -/
theorem of_eq (links : t.links = s.links) (tiles : t.tiles = s.tiles) : CreditKept s t :=
  (SteadyCredit.of_eq links tiles).creditKept

/-- What keeps the rules from a state on with the same links, tiles and present. -/
theorem after (g : CreditKept t u) (links : t.links = s.links) (tiles : t.tiles = s.tiles) (present : t.present = s.present) :
    CreditKept s u := fun hl hs => g (linksSound_congr links tiles present hl) ((SteadyCredit.of_eq links tiles).creditSound hs)

theorem when {p : Prop} [Decidable p] (h : p → CreditKept s t) : CreditKept s (if p then t else s) := by
  split
  · next hp => exact h hp
  · exact refl s

theorem finish (h : CreditKept s t) (r : ResultCode) (ws : List Word) : CreditKept s (t.finish r ws) :=
  fun hl hs => (SteadyCredit.of_eq rfl rfl).creditSound (h hl hs)

theorem complete (h : CreditKept s t) (ws : List Word) : CreditKept s (t.complete ws) := h.finish _ ws

theorem refuse (s : State) (r : ResultCode) : CreditKept s (s.refuse r) := (refl s).finish r []

theorem refuse_or {p : Prop} [Decidable p] {r : ResultCode} (h : ¬ p → CreditKept s t) :
    CreditKept s (if p then s.refuse r else t) := by
  split
  · exact refuse s r
  · next hp => exact h hp

end CreditKept

/-! ### Events, accesses and command writes -/

section Outcomes

variable {s t : State}

theorem creditKept_event {f : State → State} (h : s.event f = .next t) (hf : ∀ s, CreditKept s (f s)) : CreditKept s t := by
  obtain rfl : (if s.nReset then f s else s) = t := by simpa [State.event] using h
  exact .when fun _ => hf s

theorem creditKept_access {f : State → State} (h : s.access f = .next t) (hf : ∀ s, CreditKept s (f s)) : CreditKept s t :=
  creditKept_event h fun s => (hf _).after s.links_hostAccess s.tiles_hostAccess s.present_hostAccess

theorem creditKept_commandWrite {code : Byte} {n : Nat} {body : List Word → State → State}
    (h : s.commandWrite code n body = .next t) (hb : ∀ ps s, CreditKept s (body ps s)) : CreditKept s t := by
  refine creditKept_access h fun s => ?_
  rcases s.command_cases code n body with ⟨-, e⟩ | ⟨-, r, -, e⟩ | ⟨-, -, -, -, e⟩
  · rw [e]
    exact .of_eq rfl rfl
  · rw [e]
    exact .of_eq rfl rfl
  · rw [e]
    exact (hb _ _).after rfl rfl rfl

theorem creditKept_linkCommand {code : Byte} {body : Link → State → State} (h : s.linkCommand code body = .next t)
    (hb : ∀ k s, CreditKept s (body k s)) : CreditKept s t :=
  creditKept_commandWrite h fun _ s => .refuse_or fun _ => hb _ s

/-- An event that takes no credit and begins no dispatch. -/
theorem creditKept_steadyEvent {f : State → State} (h : s.event f = .next t) (hf : ∀ s, SteadyCredit s (f s)) :
    CreditKept s t := creditKept_event h fun s => (hf s).creditKept

/-- A notice in UP that takes no credit and begins no dispatch. -/
theorem creditKept_steadyNotice {k : Link} {f : State → State} (h : s.event (·.notice k f) = .next t)
    (hf : ∀ s, SteadyCredit s (f s)) : CreditKept s t :=
  creditKept_steadyEvent h fun s => steadyCredit_notice s k hf

/-! ### Commands with a case split of their own -/

theorem creditSound_hardReset (s : State) : CreditSound s.hardReset :=
  (SteadyCredit.of_eq (s := State.reset) rfl rfl).creditSound creditSound_reset

theorem creditKept_execHardResetEnd (h : execHardResetEnd s = .next t) : CreditKept s t := by
  simp only [execHardResetEnd, Host.Outcome.next.injEq] at h
  subst h
  split
  · exact .refl s
  · exact .of_eq rfl rfl

theorem creditKept_execWindowWriteLanding (h : execWindowWriteLanding s = .next t) : CreditKept s t := by
  refine creditKept_event h fun s => ?_
  split
  · exact .when fun _ => by rw [State.land_eq]; exact .of_eq rfl rfl
  all_goals exact .refl s

theorem creditKept_execLatchLoad (h : execLatchLoad s = .next t) : CreditKept s t := by
  refine creditKept_event h fun s => ?_
  split
  · exact .when fun _ => (steadyCredit_endLoad s _).creditKept
  all_goals exact .refl s

theorem creditKept_execPresentDeadline (h : execPresentDeadline s = .next t) : CreditKept s t := by
  refine creditKept_event h fun s => .when fun _ => ?_
  split
  · exact (steadyCredit_endPresent s _ _).creditKept
  · exact (steadyCredit_endPresent s _ _).creditKept
  · exact .refl s

theorem creditKept_execResultRead (h : execResultRead s = .next t) : CreditKept s t := by
  refine creditKept_access h fun s => ?_
  split <;> exact .of_eq rfl rfl

theorem creditKept_execUnknownCommand {code : Word} (h : execUnknownCommand code s = .next t) : CreditKept s t := by
  unfold execUnknownCommand at h
  split at h
  · cases h
  · refine creditKept_access h fun s => ?_
    split <;> exact .of_eq rfl rfl

theorem creditKept_execTileSet (h : execTileSet s = .next t) : CreditKept s t := by
  refine creditKept_commandWrite h fun _ _ => .refuse_or fun _ => .refuse_or fun off =>
    CreditKept.complete (fun hl hs => creditSound_setTile hl hs ?_) _
  exact Bool.eq_false_iff.mpr fun active => off (TileRecord.enabled_of_isActive active)

theorem creditKept_execTileEnable (h : execTileEnable s = .next t) : CreditKept s t :=
  creditKept_commandWrite h fun _ s => .refuse_or fun _ => .refuse_or fun _ => .refuse_or fun _ => .refuse_or fun _ =>
    (steadyCredit_setTile_state s _ _).creditKept.complete _

theorem creditKept_execTileDisable (h : execTileDisable s = .next t) : CreditKept s t := by
  refine creditKept_commandWrite h fun _ s => .refuse_or fun _ => ?_
  split
  · exact (steadyCredit_disableTile s _).creditKept.complete _
  · exact .refuse s _

theorem creditKept_execQueryTile (h : execQueryTile s = .next t) : CreditKept s t :=
  creditKept_commandWrite h fun _ s => .refuse_or fun _ => .refuse_or fun _ => .refuse_or fun _ => .refuse_or fun _ =>
    (steadyCredit_startQuery s _).creditKept.complete _

theorem creditKept_execLinkEnable (h : execLinkEnable s = .next t) : CreditKept s t := by
  refine creditKept_linkCommand h fun k s => ?_
  split
  · exact (steadyCredit_freshAttempt s k).creditKept.complete _
  all_goals exact .refuse s _

theorem creditKept_execLinkDisable (h : execLinkDisable s = .next t) : CreditKept s t := by
  refine creditKept_linkCommand h fun k s => ?_
  split
  · exact (CreditKept.refl s).complete _
  · exact (steadyCredit_switchOff s k).creditKept.complete _
  · exact (steadyCredit_switchOff s k).creditKept.complete _
  · exact (steadyCredit_loseLink s k _ _).creditKept.complete _

theorem creditKept_execLinkReset (h : execLinkReset s = .next t) : CreditKept s t := by
  refine creditKept_linkCommand h fun k s => ?_
  split
  · exact .refuse s _
  · exact (steadyCredit_freshAttempt s k).creditKept.complete _
  · exact (steadyCredit_freshAttempt s k).creditKept.complete _
  · exact (steadyCredit_loseLink s k _ _).creditKept.complete _

theorem creditKept_execPresent (h : execPresent s = .next t) : CreditKept s t := by
  refine creditKept_commandWrite h fun _ s => ?_
  split
  · exact .refuse s _
  · exact .refuse s _
  · split
    · exact (steadyCredit_cut s).creditKept.complete _
    · exact .refuse s _

theorem creditKept_execCancelPresent (h : execCancelPresent s = .next t) : CreditKept s t := by
  refine creditKept_commandWrite h fun _ s => ?_
  split
  · exact (steadyCredit_endPresent s _ _).creditKept.complete _
  · exact .refuse s _
  · exact .refuse s _

theorem creditKept_execSoftReset (h : execSoftReset s = .next t) : CreditKept s t := by
  refine creditKept_access h fun s => ?_
  split
  · exact .of_eq rfl rfl
  · exact ((steadyCredit_softReset _).creditKept.complete _).after rfl rfl rfl

end Outcomes

/-! ### Every command -/

theorem exec_creditKept {c : Instr} {s t : State} (h : exec c s = .next t) : CreditKept s t := by
  cases c with
  | hardReset => cases h; exact fun _ _ => creditSound_hardReset s
  | hardResetEnd => exact creditKept_execHardResetEnd h
  | startUpClearRow =>
    exact creditKept_event (show execStartUpClearRow s = .next t from h)
      fun s => .when fun _ => by rw [State.endClearRow_eq]; exact .of_eq rfl rfl
  | pixelWrite v =>
    exact creditKept_access (show execPixelWrite v s = .next t from h) fun s => (steadyCredit_writePixelData s v).creditKept
  | pixelRead =>
    exact creditKept_access (show execPixelRead s = .next t from h) fun s => (steadyCredit_readPixelData s).creditKept
  | windowWriteLanding => exact creditKept_execWindowWriteLanding h
  | latchLoad => exact creditKept_execLatchLoad h
  | fillRow =>
    exact creditKept_event (show execFillRow s = .next t from h)
      fun s => .when fun _ => by rw [State.endFillRow_eq]; exact .of_eq rfl rfl
  | remapSweepPass => exact creditKept_steadyEvent (show execRemapSweepPass s = .next t from h) steadyCredit_sweepPass
  | walkerExamination =>
    exact creditKept_event (show execWalkerExamination s = .next t from h)
      fun s => .when fun _ => (steadyCredit_examine s).creditKept
  | dispatchSelection k =>
    exact creditKept_event (show execDispatchSelection k s = .next t from h) fun s _ hs => creditSound_select hs k
  | captureGrantEnd k =>
    exact creditKept_event (show execCaptureGrantEnd k s = .next t from h)
      fun s => .when fun _ _ hs => creditSound_endCapture hs k
  | transmissionEnd k =>
    exact creditKept_steadyEvent (show execTransmissionEnd k s = .next t from h)
      fun s => .updateTx s k LinkSlice.endTransmission_eq
  | helloInterval k =>
    exact creditKept_event (show execHelloInterval k s = .next t from h)
      fun s => .when fun _ => (SteadyCredit.updateTx s k LinkSlice.handHello_eq).creditKept
  | attemptTimeout k =>
    exact creditKept_event (show execAttemptTimeout k s = .next t from h)
      fun s => .when fun _ => (steadyCredit_attemptTimedOut s k).creditKept
  | helloNotice k seen n capacity restart =>
    exact creditKept_event (show execHelloNotice k seen n capacity restart s = .next t from h)
      fun s hl => (steadyCredit_takeHello hl k seen n capacity restart).creditSound
  | ackNotice k q =>
    exact creditKept_steadyNotice (show execAckNotice k q s = .next t from h) fun s => steadyCredit_takeAck s k q
  | nakNotice k q =>
    exact creditKept_steadyNotice (show execNakNotice k q s = .next t from h) fun s => steadyCredit_takeNak s k q
  | tileStatusNotice k p freed restart shown =>
    exact creditKept_steadyNotice (show execTileStatusNotice k p freed restart shown s = .next t from h)
      fun s => steadyCredit_takeTileStatus s k p freed restart shown
  | reportNotice k p tag capacity shown restart word =>
    exact creditKept_steadyNotice (show execReportNotice k p tag capacity shown restart word s = .next t from h)
      fun s => steadyCredit_takeReport s k p tag capacity shown restart word
  | idleNotice k => exact creditKept_steadyNotice (show execIdleNotice k s = .next t from h) .refl
  | invalidNotice k =>
    exact creditKept_steadyEvent (show execInvalidNotice k s = .next t from h) fun s => steadyCredit_badNotice s k
  | replayTimeout k =>
    exact creditKept_event (show execReplayTimeout k s = .next t from h)
      fun s => .when fun _ => (steadyCredit_replayTimedOut s k).creditKept
  | replayRetransmission k =>
    exact creditKept_steadyEvent (show execReplayRetransmission k s = .next t from h) fun s => steadyCredit_retransmit s k
  | reReadGrantEnd k =>
    exact creditKept_event (show execReReadGrantEnd k s = .next t from h)
      fun s => .when fun _ => (steadyCredit_endReRead s k).creditKept
  | silenceTimeout k =>
    exact creditKept_event (show execSilenceTimeout k s = .next t from h)
      fun s => .when fun _ => (steadyCredit_loseLink s k _ _).creditKept
  | queryTimeout =>
    exact creditKept_event (show execQueryTimeout s = .next t from h) fun s => .when fun _ => .of_eq rfl rfl
  | presentDeadline => exact creditKept_execPresentDeadline h
  | parameterWrite v => exact creditKept_access (show execParameterWrite v s = .next t from h) fun s => .of_eq rfl rfl
  | resultRead => exact creditKept_execResultRead h
  | commandStatusRead => exact creditKept_access (show execCommandStatusRead s = .next t from h) fun s => .of_eq rfl rfl
  | attentionRead => exact creditKept_access (show execAttentionRead s = .next t from h) fun s => .of_eq rfl rfl
  | writeMaskWrite v => exact creditKept_access (show execWriteMaskWrite v s = .next t from h) fun s => .of_eq rfl rfl
  | interruptEnableWrite v =>
    exact creditKept_access (show execInterruptEnableWrite v s = .next t from h) fun s => .of_eq rfl rfl
  | registerWrite location v => exact creditKept_access (show execRegisterWrite location v s = .next t from h) .refl
  | unknownCommand code => exact creditKept_execUnknownCommand h
  | configureWall =>
    exact creditKept_commandWrite (show execConfigureWall s = .next t from h)
      fun _ s => .refuse_or fun _ => .refuse_or fun _ => .of_eq rfl rfl
  | setWindow =>
    exact creditKept_commandWrite (show execSetWindow s = .next t from h)
      fun _ s => .refuse_or fun _ => (steadyCredit_takeWindowOp s _).creditKept
  | setPointer =>
    exact creditKept_commandWrite (show execSetPointer s = .next t from h)
      fun _ s => .refuse_or fun _ => (steadyCredit_takeWindowOp s _).creditKept
  | setMode =>
    exact creditKept_commandWrite (show execSetMode s = .next t from h)
      fun _ s => .refuse_or fun _ => (steadyCredit_takeWindowOp s _).creditKept
  | fill =>
    exact creditKept_commandWrite (show execFill s = .next t from h)
      fun _ s => .refuse_or fun _ => .after (steadyCredit_takeWindowOp _ _).creditKept rfl rfl rfl
  | mapSet =>
    exact creditKept_commandWrite (show execMapSet s = .next t from h)
      fun _ s => .refuse_or fun _ => (steadyCredit_mapCommand s _).creditKept
  | mapRead =>
    exact creditKept_commandWrite (show execMapRead s = .next t from h)
      fun _ s => .refuse_or fun _ => (CreditKept.refl s).complete _
  | setRollRegion =>
    exact creditKept_commandWrite (show execSetRollRegion s = .next t from h)
      fun _ s => .refuse_or fun _ => (steadyCredit_mapCommand s _).creditKept
  | roll =>
    exact creditKept_commandWrite (show execRoll s = .next t from h)
      fun _ s => .refuse_or fun _ => .refuse_or fun _ => (steadyCredit_mapCommand s _).creditKept
  | tileSet => exact creditKept_execTileSet h
  | tileEnable => exact creditKept_execTileEnable h
  | tileDisable => exact creditKept_execTileDisable h
  | tileRead =>
    exact creditKept_commandWrite (show execTileRead s = .next t from h)
      fun _ s => .refuse_or fun _ => (CreditKept.refl s).complete _
  | queryTile => exact creditKept_execQueryTile h
  | queryRead =>
    exact creditKept_commandWrite (show execQueryRead s = .next t from h) fun _ s => (CreditKept.refl s).complete _
  | cellRead =>
    exact creditKept_commandWrite (show execCellRead s = .next t from h)
      fun _ s => .refuse_or fun _ => (CreditKept.refl s).complete _
  | setWalker =>
    exact creditKept_commandWrite (show execSetWalker s = .next t from h) fun _ s => .refuse_or fun _ => .of_eq rfl rfl
  | linkEnable => exact creditKept_execLinkEnable h
  | linkDisable => exact creditKept_execLinkDisable h
  | linkReset => exact creditKept_execLinkReset h
  | linkClearFlags =>
    exact creditKept_linkCommand (show execLinkClearFlags s = .next t from h)
      fun k s => (SteadyCredit.updateLink s rfl rfl).creditKept.complete _
  | present => exact creditKept_execPresent h
  | cancelPresent => exact creditKept_execCancelPresent h
  | presentRead =>
    exact creditKept_commandWrite (show execPresentRead s = .next t from h) fun _ s => (CreditKept.refl s).complete _
  | setTimer =>
    exact creditKept_commandWrite (show execSetTimer s = .next t from h)
      fun _ s => .refuse_or fun _ => .refuse_or fun _ => .of_eq rfl rfl
  | softReset => exact creditKept_execSoftReset h

/-- Settles O57: the credit law, link by link, and the credit of a dispatch in progress go through every arm of `exec`. -/
theorem stepKeepsTheCreditLaw : Obligations.StepKeepsTheCreditLaw := by
  intro s t hl hs h
  unfold step at h
  split at h
  · cases h
    exact hs
  · next c rest _ =>
    have taken : SteadyCredit s { s with pending := rest } := .of_eq rfl rfl
    exact exec_creditKept h (linksSound_congr rfl rfl rfl hl) (taken.creditSound hs)

end Sys2Proof.Machine

/-! ## TILE STATUS (R142 to R146) -/

namespace Sys2Proof.Machine

open Sys2Proof.Safety

/-- An enabled tile that names a link and chain position (R145). -/
def State.Names (s : State) (k : Link) (p : Position) (t : TileIdx) : Prop :=
  (s.tile t).state ≠ .disabled ∧ (s.tile t).link = k ∧ (s.tile t).position = p

/-- A CREDIT_EXCESS record names an enabled tile at the position, or the position where there is none (R145). -/
theorem State.excessSubject_cases (s : State) (k : Link) (p : Position) :
    (∃ t, s.excessSubject k p = .tile t ∧ s.Names k p t) ∨ (s.excessSubject k p = .position p ∧ ∀ t, ¬ s.Names k p t) := by
  have names : ∀ t, ((s.tile t).enabled && (s.tile t).link == k && (s.tile t).position == p) = true ↔ s.Names k p t :=
    fun t => by simp only [Bool.and_eq_true, beq_iff_eq, enabled_iff, and_assoc, State.Names]
  unfold State.excessSubject
  cases found : s.tileAt k p with
  | some t =>
    have meets := List.find?_some found
    exact .inl ⟨t, rfl, (names t).mp meets⟩
  | none =>
    refine .inr ⟨rfl, fun t => (names t).not.mp ?_⟩
    exact List.find?_eq_none.mp found t (List.mem_finRange t)

section TileStatus

variable {s : State} {k : Link} {p : Position} {freed : Byte} {restart : Nibble} {shown : Byte}

/-- A TILE STATUS on a link in UP is counted for the silence timer and goes to the position records (R108, R142). -/
theorem exec_tileStatusNotice_up (high : s.nReset = true) (up : (s.link k).state = .up) :
    exec (.tileStatusNotice k p freed restart shown) s =
      .next ((s.restartSilence k).takeTileStatus k p freed restart shown) := by
  have run : execTileStatusNotice k p freed restart shown s = .next _ := s.event_running _ high
  rwa [State.notice_up up] at run

/-- At an absent position (R146). -/
theorem State.takeTileStatus_absent (absent : ((s.link k).position p).present = false) :
    s.takeTileStatus k p freed restart shown = s.updateLink k (·.setStray) := by
  simp [State.takeTileStatus, absent]

/-- With another restart count (R143). -/
theorem State.takeTileStatus_restarted (present : ((s.link k).position p).present = true)
    (other : restart ≠ ((s.link k).position p).restart) :
    s.takeTileStatus k p freed restart shown = s.loseLink k .tileRestart false := by
  simp [State.takeTileStatus, present, other]

/-- The record of a position after a TILE STATUS that returns the credit of m slots (R144). -/
def PositionRecord.returned (r : PositionRecord) (m : Nat) (freed shown : Byte) : PositionRecord :=
  { r with
    lastFreed := freed, shown := shown, shownValid := true, credit := r.credit + m, outstanding := r.outstanding - m }

theorem PositionRecord.returnCredit_eq (r : PositionRecord) (d : Nat) (freed shown : Byte) :
    r.returnCredit d freed shown = r.returned (min d r.outstanding) freed shown := rfl

/-- A return of outstanding slots (R144). -/
theorem State.takeTileStatus_returned (present : ((s.link k).position p).present = true)
    (same : restart = ((s.link k).position p).restart)
    (inside : (freed - ((s.link k).position p).lastFreed).toNat ≤ ((s.link k).position p).outstanding) :
    s.takeTileStatus k p freed restart shown = s.updateLink k (·.setPosition p
      (((s.link k).position p).returned (freed - ((s.link k).position p).lastFreed).toNat freed shown)) := by
  simp only [State.takeTileStatus, present, Bool.not_true, Bool.false_eq_true, if_false, same, ne_eq, not_true_eq_false,
    Nat.not_lt.mpr inside, PositionRecord.returnCredit_eq, Nat.min_eq_left inside]

/-- A return of more slots than are outstanding (R145). -/
theorem State.takeTileStatus_excess (present : ((s.link k).position p).present = true)
    (same : restart = ((s.link k).position p).restart)
    (excess : ((s.link k).position p).outstanding < (freed - ((s.link k).position p).lastFreed).toNat) :
    s.takeTileStatus k p freed restart shown = ((s.updateLink k fun l => { l.setPosition p
      (((s.link k).position p).returned ((s.link k).position p).outstanding freed shown) with creditExcess := true }).attend
        (.creditExcess k (s.excessSubject k p))) := by
  simp only [State.takeTileStatus, present, Bool.not_true, Bool.false_eq_true, if_false, same, ne_eq, not_true_eq_false,
    excess, if_true, PositionRecord.returnCredit_eq, Nat.min_eq_right excess.le]
  exact congrArg (State.attend · _) (s.updateLink_setLink k _ _)

end TileStatus

/-- Settles O42: the notice on the records of a link whose silence timer has been restarted, by the position's presence, the restart
count and the difference. -/
theorem tileStatusReturnsCredit : Obligations.TileStatusReturnsCredit := by
  intro k p freed restart shown s high up c l r d r'
  let u := s.restartSilence k
  have link : u.link k = l := s.link_restartSilence k
  have record : (u.link k).position p = r := congrArg (·.position p) link
  have run : exec c s = .next (u.takeTileStatus k p freed restart shown) := exec_tileStatusNotice_up high up
  have update : ∀ f, u.updateLink k f = s.setLink k (f l) := s.updateLink_setLink k l
  rw [run]
  refine ⟨fun absent => ?_, fun present other => ?_, fun present same inside => ?_, fun present same excess => ?_⟩
  · rw [State.takeTileStatus_absent (by rwa [record]), update]
    rfl
  · rw [State.takeTileStatus_restarted (by rwa [record]) (by rwa [record])]
    exact ⟨_, rfl, linkLost_of_counters (linkLost_loseLink ..), u.cu_loseLink ..⟩
  · rw [State.takeTileStatus_returned (by rwa [record]) (by rwa [record]) (by rwa [record]), update, record]
    rfl
  · rw [State.takeTileStatus_excess (by rwa [record]) (by rwa [record]) (by rwa [record]), update, record]
    refine ⟨s.excessSubject k p, ?_, fun nobody => ?_, fun t on here there => ?_⟩
    · simp only [PositionRecord.returned, Nat.sub_self]
      rfl
    · rcases s.excessSubject_cases k p with ⟨t, -, on, here, there⟩ | ⟨position, -⟩
      · exact absurd there (nobody t on here)
      · exact position
    · rcases s.excessSubject_cases k p with named | ⟨-, none⟩
      · exact named
      · exact absurd ⟨on, here, there⟩ (none t)

end Sys2Proof.Machine

/-! ## The marks of a present (R150, R153, R154) -/

namespace Sys2Proof.Machine

open Sys2Proof.Safety

/-! ### The count of cells -/

/-- The number of cells that satisfy p. -/
def cellCount (p : TileIdx → WallBand → Bool) : Nat :=
  ((List.finRange 16).map fun u => (List.finRange 48).countP fun w => p u w).sum

theorem markedCells_eq_cellCount (s : State) : markedCells s = cellCount fun u w => (s.cell u w).marked := rfl

theorem State.markCount_eq_cellCount (s : State) (S : TileSet) : s.markCount S = cellCount (s.marksAtCut S) := rfl

section CellCount

variable {p q : TileIdx → WallBand → Bool}

theorem cellCount_eq_countP (p : TileIdx → WallBand → Bool) :
    cellCount p = (List.finRange 16 ×ˢ List.finRange 48).countP fun c => p c.1 c.2 := by
  simp only [SProd.sprod, List.product, List.countP_flatMap]
  rfl

theorem cellCount_eq_zero_iff : cellCount p = 0 ↔ ∀ u w, p u w = false := by
  simp [cellCount_eq_countP, List.countP_eq_zero]

/-- One cell fewer satisfies q. -/
theorem cellCount_of_one_fewer {u : TileIdx} {w : WallBand} (before : p u w = true) (after : q u w = false)
    (same : ∀ v b, ¬ (v = u ∧ b = w) → q v b = p v b) : cellCount q + 1 = cellCount p := by
  have mem : (u, w) ∈ List.finRange 16 ×ˢ List.finRange 48 := by simp
  have once : (List.finRange 16 ×ˢ List.finRange 48).Nodup := (List.nodup_finRange 16).product (List.nodup_finRange 48)
  have others : ((List.finRange 16 ×ˢ List.finRange 48).erase (u, w)).countP (fun c => q c.1 c.2) =
      ((List.finRange 16 ×ˢ List.finRange 48).erase (u, w)).countP fun c => p c.1 c.2 :=
    List.countP_congr fun c hc => by
      rw [same c.1 c.2 fun here => (once.mem_erase_iff.mp hc).1 (Prod.ext here.1 here.2)]
  rw [cellCount_eq_countP, cellCount_eq_countP, (List.perm_cons_erase mem).countP_eq, (List.perm_cons_erase mem).countP_eq,
    List.countP_cons, List.countP_cons, others]
  simp [before, after]

end CellCount

/-! ### What changes neither the present nor a mark -/

/-- The present stays, every cell keeps its mark, and no marked cell becomes CLEAN. -/
structure SteadyMarks (s t : State) : Prop where
  present : t.present = s.present
  marked : ∀ u w, (t.cell u w).marked = (s.cell u w).marked
  unclean : ∀ u w, (s.cell u w).marked = true → (s.cell u w).state ≠ .clean → (t.cell u w).state ≠ .clean

namespace SteadyMarks

variable {s t u : State}

theorem presentSound (h : SteadyMarks s t) (hs : PresentSound s) : PresentSound t := by
  obtain ⟨marks, remaining, least, idle⟩ := hs
  refine ⟨fun v w marked => ?_, ?_, ?_, ?_⟩
  · rw [h.marked] at marked
    obtain ⟨collecting, participates, state⟩ := marks v w marked
    exact ⟨by rwa [h.present], by rwa [h.present], h.unclean v w marked state⟩
  · simp only [h.present, remaining, markedCells, h.marked]
  · rwa [h.present]
  · rwa [h.present]

theorem of_eq (cells : t.cells = s.cells) (present : t.present = s.present) : SteadyMarks s t := by
  have cell : ∀ v w, t.cell v w = s.cell v w := fun v w => by simp only [State.cell, cells]
  exact ⟨present, fun v w => by rw [cell], fun v w _ => by rw [cell]; exact id⟩

theorem refl (s : State) : SteadyMarks s s := .of_eq rfl rfl

theorem trans (h : SteadyMarks s t) (g : SteadyMarks t u) : SteadyMarks s u where
  present := g.present.trans h.present
  marked v w := (g.marked v w).trans (h.marked v w)
  unclean v w marked state := g.unclean v w ((h.marked v w).trans marked) (h.unclean v w marked state)

theorem foldl {α : Type} {f : State → α → State} (h : ∀ s a, SteadyMarks s (f s a)) (l : List α) (s : State) :
    SteadyMarks s (l.foldl f s) := by
  induction l generalizing s with
  | nil => exact refl s
  | cons a l ih => exact (h s a).trans (ih _)

/-- What leaves present and marks from a state on with the same cells and the same present. -/
theorem after (g : SteadyMarks t u) (cells : t.cells = s.cells) (present : t.present = s.present) : SteadyMarks s u :=
  (of_eq cells present).trans g

theorem updateLink (s : State) (k : Link) (f : LinkSlice → LinkSlice) : SteadyMarks s (s.updateLink k f) := of_eq rfl rfl

theorem when {p : Prop} [Decidable p] (h : p → SteadyMarks s t) : SteadyMarks s (if p then t else s) := by
  split
  · next hp => exact h hp
  · exact refl s

theorem refuse (s : State) (r : ResultCode) : SteadyMarks s (s.refuse r) := of_eq rfl rfl

theorem refuse_or {p : Prop} [Decidable p] {r : ResultCode} (h : SteadyMarks s t) :
    SteadyMarks s (if p then s.refuse r else t) := by
  split
  · exact refuse s r
  · exact h

theorem complete (h : SteadyMarks s t) (ws : List Word) : SteadyMarks s (t.complete ws) := h.trans (of_eq rfl rfl)

/-- Some cells take W or M, which leave the mark and make no cell CLEAN (R58, R59). -/
theorem of_change {c : TileIdx → WallBand → Bool} (present : t.present = s.present)
    (cell : ∀ v w, t.cell v w = if c v w then (s.cell v w).change else s.cell v w) : SteadyMarks s t := by
  have unclean : ∀ r : CellRecord, r.state ≠ .clean → r.change.state ≠ .clean := fun r state => by
    obtain ⟨_ | _ | _ | _ | _, marked⟩ := r <;> simp_all [CellRecord.change, CellState.onChange]
  refine ⟨present, fun v w => ?_, fun v w _ state => ?_⟩
  · rw [cell]
    split <;> rfl
  · rw [cell]
    split
    · exact unclean _ state
    · exact state

/-- One cell changes its state, not to CLEAN (R60, R61). -/
theorem of_state {v : TileIdx} {w : WallBand} {c : CellState} (present : t.present = s.present)
    (cell : ∀ u b, t.cell u b = if u = v ∧ b = w then { s.cell v w with state := c } else s.cell u b)
    (unclean : (s.cell v w).marked = true → (s.cell v w).state ≠ .clean → c ≠ .clean) : SteadyMarks s t := by
  refine ⟨present, fun u b => ?_, fun u b marked state => ?_⟩
  all_goals
    rw [cell]
    split
  · next here => rw [here.1, here.2]
  · rfl
  · next here =>
    obtain ⟨rfl, rfl⟩ := here
    exact unclean marked state
  · exact state

end SteadyMarks

end Sys2Proof.Machine

/-! ## What leaves the present and its marks -/

namespace Sys2Proof.Machine

open Sys2Proof.Safety

/-! ### The window side and the sweep (R10, R12, R15, R17, R34) -/

theorem steadyMarks_notify (s : State) (b : StoreBand) (first count : Nat) : SteadyMarks s (s.notify b first count) :=
  .of_change rfl fun _ _ => s.cell_notify ..

theorem steadyMarks_land (s : State) (v : Word) : SteadyMarks s (s.land v) := by
  rw [State.land_eq]
  exact (steadyMarks_notify s (bandOfRow s.window.y) s.window.x.val 1).trans (.of_eq rfl rfl)

theorem steadyMarks_endFillRow (s : State) : SteadyMarks s s.endFillRow := by
  rw [State.endFillRow_eq]
  cases lastRowInBand s.fill.row s.fill.rect.y1.val with
  | true =>
    exact (steadyMarks_notify s (bandOfRow (Fin.ofNat 512 s.fill.row)) s.fill.rect.x0.val
      (s.fill.rect.x1.val - s.fill.rect.x0.val + 1)).trans (.of_eq rfl rfl)
  | false => exact .of_eq rfl rfl

theorem steadyMarks_runHeld (held : List HeldOp) (s : State) : SteadyMarks s (State.runHeld held s) := by
  induction held generalizing s with
  | nil => exact .of_eq rfl rfl
  | cons op rest ih =>
    cases op with
    | pixelRead =>
      simp only [State.runHeld, State.readLatch_eq]
      split
      · exact .after (ih _) rfl rfl
      · exact .of_eq rfl rfl
    | setMode o m => exact .after (ih _) rfl rfl
    | pixelWrite _ => exact .of_eq rfl rfl
    | setWindow _ => exact .of_eq rfl rfl
    | setPointer _ _ => exact .of_eq rfl rfl
    | fillStart => exact .of_eq rfl rfl

theorem steadyMarks_takeWindowOp (s : State) (op : HeldOp) : SteadyMarks s (s.takeWindowOp op) := by
  simp only [State.takeWindowOp]
  split
  · exact steadyMarks_runHeld _ s
  · exact .of_eq rfl rfl

theorem steadyMarks_writePixelData (s : State) (v : Word) : SteadyMarks s (s.writePixelData v) := by
  unfold State.writePixelData
  split
  · exact .of_eq rfl rfl
  · exact .after (steadyMarks_takeWindowOp _ _) rfl rfl

theorem steadyMarks_readPixelData (s : State) : SteadyMarks s s.readPixelData := by
  unfold State.readPixelData
  split
  · exact .of_eq rfl rfl
  · exact .after (steadyMarks_takeWindowOp _ _) rfl rfl

theorem steadyMarks_endLoad (s : State) (cause : LoadCause) : SteadyMarks s (s.endLoad cause) := by
  rw [State.endLoad_eq]
  refine .after (steadyMarks_runHeld _ _) ?_ ?_
  all_goals cases cause <;> rfl

theorem steadyMarks_sweepPass (s : State) : SteadyMarks s s.sweepPass := by
  unfold State.sweepPass
  split
  · next w rest _ =>
    have swept : SteadyMarks s (s.sweepBand w) := .of_change rfl fun _ _ => s.cell_sweepBand ..
    simp only []
    generalize s.sweepBand w = u at swept
    split <;> exact swept.trans (.of_eq rfl rfl)
  · exact .refl s

theorem steadyMarks_mapCommand (s : State) (m : BandMap) : SteadyMarks s (s.mapCommand m) := by
  unfold State.mapCommand
  split <;> exact .of_eq rfl rfl

theorem steadyMarks_hostAccess (s : State) : SteadyMarks s s.hostAccess := .of_eq s.cells_hostAccess s.present_hostAccess

/-! ### Cells queued, captured and acknowledged (R60 to R62, R71, R89) -/

theorem steadyMarks_queueCell (s : State) (t : TileIdx) (w : WallBand) : SteadyMarks s (s.queueCell t w) :=
  .of_state rfl (fun _ _ => s.cell_queueCell ..) fun _ unclean => by
    cases state : (s.cell t w).state <;> simp_all [CellState.onQueue]

theorem steadyMarks_captureCell (s : State) (t : TileIdx) (w : WallBand) : SteadyMarks s (s.captureCell t w) :=
  .of_state rfl (fun _ _ => s.cell_captureCell ..) fun _ unclean => by
    cases state : (s.cell t w).state <;> simp_all [CellState.onCapture]

/-- A without a report: the cell is not INFLIGHT, or it has no mark (R62). -/
theorem steadyMarks_ackCell {s : State} {t : TileIdx} {w : WallBand} (silent : ¬ (s.cell t w).ackReports = true) :
    SteadyMarks s (s.ackCell t w) := by
  have kept : (s.cell t w).marked = true → (s.cell t w).state ≠ .inflight := fun marked inflight =>
    silent (Bool.and_eq_true_iff.mpr ⟨beq_iff_eq.mpr inflight, marked⟩)
  refine .of_state (v := t) (w := w) (c := (s.cell t w).state.onAck) rfl (fun u b => ?_) fun marked unclean => ?_
  · have mark : ((s.cell t w).marked && (s.cell t w).state != .inflight) = (s.cell t w).marked := by
      simpa using kept
    rw [State.cell_ackCell, mark]
  · have inFlight := kept marked
    cases state : (s.cell t w).state <;> simp_all [CellState.onAck]

theorem steadyMarks_examine (s : State) : SteadyMarks s s.examine := by
  simp only [State.examine]
  split
  · exact .after (steadyMarks_queueCell _ _ _) rfl rfl
  · exact .of_eq rfl rfl

theorem steadyMarks_completeDispatch (s : State) (k : Link) (e : Entry) (body : HoldBody) (payload : List Word) :
    SteadyMarks s (s.completeDispatch k e body payload) := by
  cases e with
  | cell t w => exact .after (steadyMarks_captureCell _ t w) rfl rfl
  | showTile t n => exact .of_eq rfl rfl
  | query t g => exact .of_eq rfl rfl

theorem steadyMarks_select (s : State) (k : Link) : SteadyMarks s (s.select k) := by
  unfold State.select
  split
  · split
    · exact .refl s
    · split
      · exact steadyMarks_completeDispatch ..
      · exact .of_eq rfl rfl
    all_goals exact steadyMarks_completeDispatch ..
  · exact .refl s

theorem steadyMarks_endCapture (s : State) (k : Link) : SteadyMarks s (s.endCapture k) := by
  have completed : ∀ e body payload, SteadyMarks s (s.completeDispatch k e body payload).releaseGrant := fun e body payload =>
    (steadyMarks_completeDispatch s k e body payload).trans (.of_eq rfl rfl)
  unfold State.endCapture
  split
  · split
    · exact completed ..
    · split
      · exact completed ..
      · exact .of_eq rfl rfl
  · exact .of_eq rfl rfl
  all_goals exact .refl s

/-! ### Links, tiles and queries (R40, R49, R51, R115 to R118, R125, R126, R142 to R146) -/

section Links

variable (s : State) (k : Link)

theorem steadyMarks_attemptTimedOut : SteadyMarks s (s.attemptTimedOut k) := by
  simp only [State.attemptTimedOut]
  split <;> exact .of_eq rfl rfl

theorem steadyMarks_giveUpReRead : SteadyMarks s (s.giveUpReRead k) := by
  obtain ⟨a, e⟩ := s.giveUpReRead_eq k
  rw [e]
  exact .of_eq rfl rfl

theorem steadyMarks_beginReplay (q : SeqNo) : SteadyMarks s (s.beginReplay k q) :=
  (steadyMarks_giveUpReRead s k).trans (.of_eq rfl rfl)

theorem steadyMarks_retransmit : SteadyMarks s (s.retransmit k) := by
  unfold State.retransmit
  split
  · exact .refl s
  · split <;> exact .of_eq rfl rfl

theorem steadyMarks_endReRead : SteadyMarks s (s.endReRead k) := by
  unfold State.endReRead
  split
  · split <;> exact .of_eq rfl rfl
  · exact .of_eq rfl rfl
  all_goals exact .refl s

theorem steadyMarks_badNotice : SteadyMarks s (s.badNotice k) := by
  unfold State.badNotice
  split <;> exact .of_eq rfl rfl

theorem steadyMarks_takeReport (p : Position) (tag : Byte) (capacity : Nibble) (shown : Byte) (restart : Nibble)
    (word : BitVec 32) : SteadyMarks s (s.takeReport k p tag capacity shown restart word) := by
  unfold State.takeReport
  split <;> exact .of_eq rfl rfl

theorem steadyMarks_enterUp (n : BitVec 3) (capacity restart : Vector Nibble 4) :
    SteadyMarks s (s.enterUp k n capacity restart) := by
  obtain ⟨l, x, a, e⟩ := State.enterUp_frame (s := s) (k := k) (n := n) (capacity := capacity) (restart := restart)
  rw [e]
  exact .of_eq rfl rfl

theorem steadyMarks_softResetLink : SteadyMarks s (s.softResetLink k) := by
  obtain ⟨w, e, -⟩ := s.stopEngine_eq k
  rw [State.softResetLink, e]
  exact .of_eq rfl rfl

end Links

end Sys2Proof.Machine

/-! ## What moves a present or its marks -/

namespace Sys2Proof.Machine

open Sys2Proof.Safety

/-! ### Presents without a mark (R150, R158) -/

theorem markedCells_eq_zero_iff (s : State) : markedCells s = 0 ↔ ∀ u w, (s.cell u w).marked = false :=
  cellCount_eq_zero_iff

theorem presentSound_of_unmarked {s : State} (unmarked : ∀ u w, (s.cell u w).marked = false) (nothing : s.present.remaining = 0)
    (other : s.present.state ≠ .collecting) (deadline : s.present.state = .idle → s.present.deadline = none) : PresentSound s := by
  refine ⟨fun u w marked => ?_, ?_, fun collecting => absurd collecting other, deadline⟩
  · rw [unmarked] at marked
    cases marked
  · rw [nothing, (markedCells_eq_zero_iff s).mpr unmarked]

/-- Outside COLLECTING no cell is marked and nothing remains. -/
theorem unmarked_of_not_collecting {s : State} (hs : PresentSound s) (other : s.present.state ≠ .collecting) :
    (∀ u w, (s.cell u w).marked = false) ∧ s.present.remaining = 0 := by
  obtain ⟨marks, remaining, -⟩ := hs
  have unmarked : ∀ u w, (s.cell u w).marked = false := fun u w =>
    Bool.eq_false_iff.mpr fun marked => other (marks u w marked).1
  exact ⟨unmarked, by rw [remaining, (markedCells_eq_zero_iff s).mpr unmarked]⟩

theorem presentSound_endPresent {s : State} (hs : PresentSound s) (o : PresentOutcome) (t : Option TileIdx) :
    PresentSound (s.endPresent o t) := by
  refine presentSound_of_unmarked (fun u w => ?_) rfl (fun collecting => nomatch collecting) fun _ => rfl
  rw [State.cell_endPresent]
  split
  · rfl
  · next other => exact (unmarked_of_not_collecting hs other).1 u w

/-- The entry to SHOWING changes the present's state and links (R156). -/
theorem State.enterShowing_frame (s : State) :
    ∃ l, s.enterShowing = { s with present := { s.present with state := .showing }, links := l } := State.appendShows_frame _

theorem presentSound_enterShowing {s : State} (unmarked : ∀ u w, (s.cell u w).marked = false) (nothing : s.present.remaining = 0) :
    PresentSound s.enterShowing := by
  obtain ⟨l, e⟩ := s.enterShowing_frame
  rw [e]
  exact presentSound_of_unmarked unmarked nothing (fun collecting => nomatch collecting) fun idle => nomatch idle

/-! ### Reports of a release (R62, R154, R156, R157) -/

/-- A report for a mark that is gone brings the remaining count back to the number of marks, and shows once none is left. -/
theorem presentSound_reportClearedMark {s : State} (collecting : s.present.state = .collecting)
    (marks : ∀ u w, (s.cell u w).marked = true →
      TileSet.has s.present.participants u = true ∧ (s.cell u w).state ≠ .clean)
    (counted : s.present.remaining = markedCells s + 1) : PresentSound s.reportClearedMark := by
  by_cases last : markedCells s = 0
  · rw [State.reportClearedMark_of_last collecting (by omega)]
    exact presentSound_enterShowing ((markedCells_eq_zero_iff s).mp last) rfl
  · rw [State.reportClearedMark_of_more collecting (by omega)]
    refine ⟨fun u w marked => ⟨collecting, marks u w marked⟩, ?_, fun _ => ?_, fun idle => ?_⟩
    · exact Nat.sub_eq_of_eq_add counted
    · exact Nat.le_sub_of_add_le (by omega)
    · exact nomatch collecting.symm.trans idle

/-- A clears the mark of a marked INFLIGHT cell and reports it, or it leaves every mark (R62). -/
theorem presentSound_ackCellOf {s : State} (hs : PresentSound s) (r : HoldRecord) (w : WallBand) :
    PresentSound (State.releaseEffect.ackCellOf s r w) := by
  unfold State.releaseEffect.ackCellOf
  split
  · next reports =>
    obtain ⟨inflight, marked⟩ := Bool.and_eq_true_iff.mp reports
    obtain ⟨marks, remaining, -⟩ := hs
    have cell := s.cell_ackCell r.tile (w := w)
    have cleared : ((s.ackCell r.tile w).cell r.tile w).marked = false := by
      rw [cell, if_pos ⟨rfl, rfl⟩, beq_iff_eq.mp inflight]
      simp
    have others : ∀ u v, ¬ (u = r.tile ∧ v = w) → (s.ackCell r.tile w).cell u v = s.cell u v := fun u v other => by
      rw [cell, if_neg other]
    have collecting : (s.ackCell r.tile w).present.state = .collecting := (marks r.tile w marked).1
    refine presentSound_reportClearedMark collecting (fun u v still => ?_) ?_
    · have other : ¬ (u = r.tile ∧ v = w) := by
        rintro ⟨rfl, rfl⟩
        rw [cleared] at still
        cases still
      rw [others u v other] at still ⊢
      exact (marks u v still).2
    · exact remaining.trans (cellCount_of_one_fewer marked cleared fun u v other => by rw [others u v other]).symm
  · next silent => exact (steadyMarks_ackCell silent).presentSound hs

theorem presentSound_reportShow {s : State} (hs : PresentSound s) (t : TileIdx) (n : Byte) : PresentSound (s.reportShow t n) := by
  have shown : PresentSound { s with present.shown := TileSet.add s.present.shown t } := hs
  simp only [State.reportShow]
  split
  · split
    · exact presentSound_endPresent shown _ _
    · exact shown
  · exact hs

theorem presentSound_releaseEffect {s : State} (hs : PresentSound s) (r : HoldRecord) : PresentSound (s.releaseEffect r) := by
  rcases s.releaseEffect_cases r with ⟨-, e⟩ | ⟨w, -, -, e⟩ | ⟨n, -, -, e⟩
  · rwa [e]
  · rw [e]
    exact presentSound_ackCellOf hs r w
  · rw [e]
    exact presentSound_reportShow hs r.tile n

theorem presentSound_releaseRecords {s : State} (hs : PresentSound s) (k : Link) (n : Nat) :
    PresentSound (s.releaseRecords k n) :=
  List.foldlRecOn _ _ (motive := PresentSound) hs fun _ sound r _ => presentSound_releaseEffect sound r

theorem presentSound_release {s : State} (hs : PresentSound s) (k : Link) (n : Nat) : PresentSound (s.release k n) := by
  rcases s.release_cases k n with ⟨-, e⟩ | ⟨-, -, e⟩ | ⟨-, e⟩
  · rwa [e]
  · rw [e]
    exact presentSound_releaseRecords hs k n
  · rw [e]
    exact ((steadyMarks_giveUpReRead _ k).trans (.of_eq rfl rfl)).presentSound (presentSound_releaseRecords hs k n)

/-! ### The cut (R152, R153) -/

/-- The participants of a present that begins now: the ACTIVE tiles (R152). -/
def State.cutParticipants (s : State) : TileSet := TileSet.of fun t => (s.tile t).isActive

/-- The record of a present that begins now (R152, R153, R161). -/
def State.cutRecord (s : State) : PresentRecord where
  state := .collecting
  number := s.present.number + 1
  participants := s.cutParticipants
  shown := 0
  remaining := s.markCount s.cutParticipants
  deadline := if s.timers.presentDeadline = 0 then none else some s.timers.presentDeadline
  outcome := .none

/-- A present that begins now, COLLECTING (R152, R153). -/
def State.collect (s : State) : State := { s.setMarks s.cutParticipants with present := s.cutRecord }

theorem State.cut_eq (s : State) : s.cut = if s.markCount s.cutParticipants = 0 then s.collect.enterShowing else s.collect := rfl

/-- A present that begins changes cells (their marks) and the present. -/
theorem State.collect_frame (s : State) : ∃ x, s.collect = { s with cells := x, present := s.cutRecord } := ⟨_, rfl⟩

section Cut

variable {s : State} {u : TileIdx} {w : WallBand}

theorem State.has_cutParticipants : TileSet.has s.cutParticipants u = ((s.tile u).state == .active) := TileSet.has_of _ _

/-- What the cut marks: the cells of ACTIVE tiles that are not CLEAN (R153). -/
theorem State.marksAtCut_iff : s.marksAtCut s.cutParticipants u w = true ↔
    (s.tile u).state = .active ∧ (s.tile u).hasBand w = true ∧ (s.cell u w).state ≠ .clean := by
  simp [State.marksAtCut, State.has_cutParticipants, and_assoc]

theorem State.cell_collect : s.collect.cell u w =
    if s.marksAtCut s.cutParticipants u w then { s.cell u w with marked := true } else s.cell u w := s.cell_setMarks ..

theorem State.markCount_eq_zero_iff : s.markCount s.cutParticipants = 0 ↔
    ∀ u w, ¬ ((s.tile u).state = .active ∧ (s.tile u).hasBand w = true ∧ (s.cell u w).state ≠ .clean) := by
  rw [State.markCount_eq_cellCount, cellCount_eq_zero_iff]
  simp only [← Bool.not_eq_true, State.marksAtCut_iff]

/-- Where no cell was marked, the marks after the cut are those it sets. -/
theorem markedCells_collect (unmarked : ∀ u w, (s.cell u w).marked = false) :
    markedCells s.collect = s.markCount s.cutParticipants := by
  have marked : ∀ u w, (s.collect.cell u w).marked = s.marksAtCut s.cutParticipants u w := fun u w => by
    rw [State.cell_collect]
    split
    · next marks => exact marks.symm
    · next skips => rw [unmarked, Bool.eq_false_iff.mpr skips]
  simp only [markedCells, marked]
  rfl

end Cut

theorem presentSound_cut {s : State} (idle : s.present.state = .idle) (hs : PresentSound s) : PresentSound s.cut := by
  obtain ⟨unmarked, -⟩ := unmarked_of_not_collecting hs (by simp [idle])
  have counted := markedCells_collect unmarked
  rw [State.cut_eq]
  split
  · next clean => exact presentSound_enterShowing ((markedCells_eq_zero_iff _).mp (counted.trans clean)) clean
  · next unclean =>
    refine ⟨fun u w marked => ?_, counted.symm, fun _ => Nat.one_le_iff_ne_zero.mpr unclean, fun idle => nomatch idle⟩
    rw [State.cell_collect] at marked ⊢
    split at marked
    · next marks =>
      obtain ⟨active, -, state⟩ := State.marksAtCut_iff.mp marks
      have participates : TileSet.has s.cutParticipants u = true := by rw [State.has_cutParticipants, active]; rfl
      rw [if_pos marks]
      exact ⟨rfl, participates, state⟩
    · rw [unmarked] at marked
      cases marked

/-! ### Departures and resets (R41, R63, R158 to R160, R163, R184) -/

/-- Tiles leave ACTIVE, with their entries: a present that goes on needs none of them, so that no mark was on their cells. -/
theorem presentSound_of_departed {s t : State} {a : Attention} {ts : List TileIdx} {es : List Entry} (hs : PresentSound s)
    (departed : Departed s t a ts es) (removed : ∀ u w, Entry.cell u w ∈ es → u ∈ ts) : PresentSound t := by
  obtain ⟨present, -, gone, stays, -⟩ := departed
  cases ender : presentEnder s.present ts es with
  | some v =>
    simp only [ender, Option.isSome_some, if_true] at present
    refine presentSound_of_unmarked (fun u w => ?_) (by rw [present]) (by simp [present]) fun _ => by rw [present]
    by_cases lost : (u ∈ ts ∧ (s.tile u).hasBand w = true) ∨ Entry.cell u w ∈ es
    · rw [gone u w lost]
    · rw [stays u w lost]
      split
      · rfl
      · next other => exact (unmarked_of_not_collecting hs fun collecting => other ⟨by rw [ender]; rfl, collecting⟩).1 u w
  | none =>
    simp only [ender, Option.isSome_none, Bool.false_eq_true, if_false] at present
    have cell : ∀ u w, t.cell u w = s.cell u w ∨ t.cell u w = ⟨.stale, false⟩ ∧ (s.cell u w).marked = false := fun u w => by
      by_cases lost : (u ∈ ts ∧ (s.tile u).hasBand w = true) ∨ Entry.cell u w ∈ es
      · refine .inr ⟨gone u w lost, Bool.eq_false_iff.mpr fun marked => ?_⟩
        obtain ⟨collecting, participates, -⟩ := hs.1 u w marked
        have needed := (PresentRecord.needs_iff s.present u).mpr ⟨participates, .inl collecting⟩
        rw [not_needs_of_presentEnder ender (lost.elim And.left (removed u w))] at needed
        cases needed
      · have same := stays u w lost
        rw [ender] at same
        exact .inl same
    refine SteadyMarks.presentSound ⟨present, fun u w => ?_, fun u w marked state => ?_⟩ hs
    · rcases cell u w with same | ⟨stale, unmarked⟩
      · rw [same]
      · rw [stale, unmarked]
    · rcases cell u w with same | ⟨-, unmarked⟩
      · rwa [same]
      · exact absurd marked (by simp [unmarked])

theorem presentSound_hardReset (s : State) : PresentSound s.hardReset :=
  (SteadyMarks.of_eq (s := State.reset) rfl rfl).presentSound presentSound_reset

theorem presentSound_softReset {s : State} (hs : PresentSound s) : PresentSound s.softReset := by
  have links : SteadyMarks s ((List.finRange 4).foldl State.softResetLink s) := .foldl steadyMarks_softResetLink _ s
  have sound := links.presentSound hs
  unfold State.softReset
  generalize (List.finRange 4).foldl State.softResetLink s = u at sound
  have idle : u.present.softReset.state = .idle ∧ u.present.softReset.remaining = 0 ∧ u.present.softReset.deadline = none := by
    cases state : u.present.state with
    | idle =>
      have same : u.present.softReset = u.present := by simp only [PresentRecord.softReset, state]
      rw [same]
      exact ⟨state, (unmarked_of_not_collecting sound (by simp [state])).2, sound.2.2.2 state⟩
    | collecting => simp only [PresentRecord.softReset, state, and_self]
    | showing => simp only [PresentRecord.softReset, state, and_self]
  obtain ⟨idle, nothing, deadline⟩ := idle
  refine presentSound_of_unmarked (fun v w => ?_) nothing (by simp [idle]) fun _ => deadline
  simp [State.cell, CellRecord.hardReset]

end Sys2Proof.Machine

/-! ## Every command keeps the marks and the remaining count of a present in agreement (R150, R153, R154, R158) -/

namespace Sys2Proof.Machine

open Sys2Proof.Safety

/-- The rules of the present go from one state to another where those of the links hold. -/
def PresentKept (s t : State) : Prop := LinksSound s → PresentSound s → PresentSound t

theorem SteadyMarks.presentKept {s t : State} (h : SteadyMarks s t) : PresentKept s t := fun _ => h.presentSound

namespace PresentKept

variable {s t u : State}

theorem refl (s : State) : PresentKept s s := fun _ => id

theorem trans (h : PresentKept s t) (links : LinksKept s t) (g : PresentKept t u) : PresentKept s u :=
  fun hl hs => g (links hl) (h hl hs)

/-- What keeps the rules from a state on with the same cells, tiles, links and present. -/
theorem after (g : PresentKept t u) (cells : t.cells = s.cells) (tiles : t.tiles = s.tiles) (links : t.links = s.links)
    (present : t.present = s.present) : PresentKept s u :=
  (SteadyMarks.of_eq cells present).presentKept.trans (.of_eq links tiles present) g

theorem when {p : Prop} [Decidable p] (h : p → PresentKept s t) : PresentKept s (if p then t else s) := by
  split
  · next hp => exact h hp
  · exact refl s

theorem complete (h : PresentKept s t) (ws : List Word) : PresentKept s (t.complete ws) :=
  fun hl hs => (SteadyMarks.of_eq rfl rfl).presentSound (h hl hs)

theorem refuse (s : State) (r : ResultCode) : PresentKept s (s.refuse r) := (SteadyMarks.refuse s r).presentKept

theorem refuse_or {p : Prop} [Decidable p] {r : ResultCode} (h : ¬ p → PresentKept s t) :
    PresentKept s (if p then s.refuse r else t) := by
  split
  · exact refuse s r
  · next hp => exact h hp

end PresentKept

/-! ### Tiles that leave ACTIVE, and SOFT RESET (R44, R131, R184) -/

theorem presentKept_softReset (s : State) : PresentKept s s.softReset := fun _ => presentSound_softReset

/-- A loss: the entries of its link name the tiles that leave (R77, R131). -/
theorem presentKept_loseLink (s : State) (k : Link) (reason : LossReason) (off : Bool) :
    PresentKept s (s.loseLink k reason off) := fun hl hs =>
  presentSound_of_departed hs (departed_loseLink s k reason off) fun _ _ he => mem_activeTiles.mpr (hl.2.2.1 k _ he)

theorem presentKept_disableTile (s : State) (t : TileIdx) : PresentKept s (s.disableTile t) := by
  intro _ hs
  by_cases active : (s.tile t).isActive = true
  · refine presentSound_of_departed hs (departed_disableTile active) fun u w he => ?_
    simpa [LinkSlice.entriesOf, Entry.tile] using (List.mem_filter.mp he).2
  · rw [State.disableTile, if_neg active]
    exact (SteadyMarks.of_eq rfl rfl).presentSound hs

/-! ### Replays and notices (R104, R120 to R124, R142 to R146) -/

section Notices

variable (s : State) (k : Link)

/-- A counted replay begins, or ends the UP period of the link (R121, R124). -/
theorem presentKept_countReplay (q : SeqNo) : PresentKept s (s.countReplay k q) := by
  have counted : SteadyMarks s (s.updateLink k fun l => { l with replayCount := (s.link k).replayCount + 1 }) := .of_eq rfl rfl
  have links : LinksKept s (s.updateLink k fun l => { l with replayCount := (s.link k).replayCount + 1 }) :=
    .updateLink (fun rules => { rules with }) (fun _ => rfl) rfl rfl
  simp only [State.countReplay]
  split
  · exact counted.presentKept.trans links (presentKept_loseLink _ k _ _)
  · exact (counted.trans (steadyMarks_beginReplay _ k q)).presentKept

theorem presentKept_replayTimedOut : PresentKept s (s.replayTimedOut k) := by
  unfold State.replayTimedOut
  split
  · exact presentKept_countReplay s k _
  · exact .refl s

theorem presentSound_takeAck {s : State} (hs : PresentSound s) (k : Link) (q : SeqNo) : PresentSound (s.takeAck k q) := by
  simp only [State.takeAck]
  split
  · split
    · exact presentSound_release hs k _
    · exact hs
  · exact (SteadyMarks.of_eq rfl rfl).presentSound hs

theorem presentKept_takeNak (q : SeqNo) : PresentKept s (s.takeNak k q) := by
  have released : ∀ n, PresentKept s (s.release k n) := fun n _ hs => presentSound_release hs k n
  simp only [State.takeNak]
  split
  · split
    · exact (released _).trans (fun hl => (linksSound_release hl k _).1) (presentKept_countReplay _ k q)
    · exact released _
  · exact (SteadyMarks.of_eq rfl rfl).presentKept

/-- A valid notice that its block takes, the link being UP. -/
theorem presentKept_notice {f : State → State} (hf : ∀ s, PresentKept s (f s)) : PresentKept s (s.notice k f) := by
  unfold State.notice
  split
  · next up => exact (SteadyMarks.updateLink s k _).presentKept.trans (linksKept_restartSilence up) (hf _)
  all_goals exact .refl s

theorem presentKept_takeHello (seen : Bool) (n : BitVec 3) (capacity restart : Vector Nibble 4) :
    PresentKept s (s.takeHello k seen n capacity restart) := by
  unfold State.takeHello
  split
  · split
    · have heard : SteadyMarks s (s.updateLink k fun l => { l with partnerHeard := true }) := .updateLink s k _
      simp only []
      split
      · exact (heard.trans (steadyMarks_enterUp _ k n capacity restart)).presentKept
      · exact heard.presentKept
    · next up =>
      exact (SteadyMarks.updateLink s k _).presentKept.trans (linksKept_restartSilence up) (presentKept_loseLink _ k _ _)
    all_goals exact .refl s
  · exact (steadyMarks_badNotice s k).presentKept

theorem presentKept_takeTileStatus (p : Position) (freed : Byte) (restart : Nibble) (shown : Byte) :
    PresentKept s (s.takeTileStatus k p freed restart shown) := by
  simp only [State.takeTileStatus]
  split
  · exact (SteadyMarks.of_eq rfl rfl).presentKept
  · split
    · exact presentKept_loseLink s k _ _
    · split <;> exact (SteadyMarks.of_eq rfl rfl).presentKept

end Notices

/-! ### Events, accesses and command writes -/

section Outcomes

variable {s t : State}

theorem presentKept_event {f : State → State} (h : s.event f = .next t) (hf : ∀ s, PresentKept s (f s)) : PresentKept s t := by
  obtain rfl : (if s.nReset then f s else s) = t := by simpa [State.event] using h
  exact .when fun _ => hf s

theorem presentKept_access {f : State → State} (h : s.access f = .next t) (hf : ∀ s, PresentKept s (f s)) : PresentKept s t :=
  presentKept_event h fun s => (steadyMarks_hostAccess s).presentKept.trans (linksKept_hostAccess s) (hf _)

theorem presentKept_commandWrite {code : Byte} {n : Nat} {body : List Word → State → State}
    (h : s.commandWrite code n body = .next t) (hb : ∀ ps s, PresentKept s (body ps s)) : PresentKept s t := by
  refine presentKept_access h fun s => ?_
  rcases s.command_cases code n body with ⟨-, e⟩ | ⟨-, r, -, e⟩ | ⟨-, -, -, -, e⟩
  · rw [e]
    exact (SteadyMarks.of_eq rfl rfl).presentKept
  · rw [e]
    exact (SteadyMarks.of_eq rfl rfl).presentKept
  · rw [e]
    exact (hb _ _).after rfl rfl rfl rfl

theorem presentKept_linkCommand {code : Byte} {body : Link → State → State} (h : s.linkCommand code body = .next t)
    (hb : ∀ k s, PresentKept s (body k s)) : PresentKept s t :=
  presentKept_commandWrite h fun _ s => .refuse_or fun _ => hb _ s

/-- An event that leaves the present and its marks. -/
theorem presentKept_steadyEvent {f : State → State} (h : s.event f = .next t) (hf : ∀ s, SteadyMarks s (f s)) :
    PresentKept s t := presentKept_event h fun s => (hf s).presentKept

/-- An access that leaves the present and its marks. -/
theorem presentKept_steadyAccess {f : State → State} (h : s.access f = .next t) (hf : ∀ s, SteadyMarks s (f s)) :
    PresentKept s t := presentKept_access h fun s => (hf s).presentKept

/-- A command that leaves the present and its marks. -/
theorem presentKept_steadyCommand {code : Byte} {n : Nat} {body : List Word → State → State}
    (h : s.commandWrite code n body = .next t) (hb : ∀ ps s, SteadyMarks s (body ps s)) : PresentKept s t :=
  presentKept_commandWrite h fun ps s => (hb ps s).presentKept

/-! ### Commands with a case split of their own -/

theorem presentKept_execHardResetEnd (h : execHardResetEnd s = .next t) : PresentKept s t := by
  simp only [execHardResetEnd, Host.Outcome.next.injEq] at h
  subst h
  split
  · exact .refl s
  · exact (SteadyMarks.of_eq rfl rfl).presentKept

theorem presentKept_execStartUpClearRow (h : execStartUpClearRow s = .next t) : PresentKept s t :=
  presentKept_steadyEvent h fun s => .when fun _ => by rw [State.endClearRow_eq]; exact .of_eq rfl rfl

theorem presentKept_execWindowWriteLanding (h : execWindowWriteLanding s = .next t) : PresentKept s t := by
  refine presentKept_steadyEvent h fun s => ?_
  split
  · exact .when fun _ => steadyMarks_land s _
  all_goals exact .refl s

theorem presentKept_execLatchLoad (h : execLatchLoad s = .next t) : PresentKept s t := by
  refine presentKept_steadyEvent h fun s => ?_
  split
  · exact .when fun _ => steadyMarks_endLoad s _
  all_goals exact .refl s

theorem presentKept_execPresentDeadline (h : execPresentDeadline s = .next t) : PresentKept s t := by
  refine presentKept_event h fun s => .when fun _ _ hs => ?_
  split
  · exact presentSound_endPresent hs _ _
  · exact presentSound_endPresent hs _ _
  · exact hs

theorem presentKept_execResultRead (h : execResultRead s = .next t) : PresentKept s t := by
  refine presentKept_steadyAccess h fun s => ?_
  split <;> exact .of_eq rfl rfl

theorem presentKept_execUnknownCommand {code : Word} (h : execUnknownCommand code s = .next t) : PresentKept s t := by
  unfold execUnknownCommand at h
  split at h
  · cases h
  · refine presentKept_steadyAccess h fun s => ?_
    split <;> exact .of_eq rfl rfl

theorem presentKept_execTileDisable (h : execTileDisable s = .next t) : PresentKept s t := by
  refine presentKept_commandWrite h fun _ s => .refuse_or fun _ => ?_
  split
  · exact (presentKept_disableTile s _).complete _
  · exact .refuse s _

theorem presentKept_execLinkEnable (h : execLinkEnable s = .next t) : PresentKept s t := by
  refine presentKept_linkCommand h fun k s => ?_
  split
  · exact (SteadyMarks.of_eq rfl rfl).presentKept
  all_goals exact .refuse s _

theorem presentKept_execLinkDisable (h : execLinkDisable s = .next t) : PresentKept s t := by
  refine presentKept_linkCommand h fun k s => ?_
  split
  · exact (SteadyMarks.of_eq rfl rfl).presentKept
  · exact (SteadyMarks.of_eq rfl rfl).presentKept
  · exact (SteadyMarks.of_eq rfl rfl).presentKept
  · exact (presentKept_loseLink s k _ _).complete _

theorem presentKept_execLinkReset (h : execLinkReset s = .next t) : PresentKept s t := by
  refine presentKept_linkCommand h fun k s => ?_
  split
  · exact .refuse s _
  · exact (SteadyMarks.of_eq rfl rfl).presentKept
  · exact (SteadyMarks.of_eq rfl rfl).presentKept
  · exact (presentKept_loseLink s k _ _).complete _

theorem presentKept_execPresent (h : execPresent s = .next t) : PresentKept s t := by
  refine presentKept_commandWrite h fun _ s => ?_
  split
  · exact .refuse s _
  · exact .refuse s _
  · next idle =>
    split
    · exact PresentKept.complete (fun _ => presentSound_cut idle) _
    · exact .refuse s _

theorem presentKept_execCancelPresent (h : execCancelPresent s = .next t) : PresentKept s t := by
  refine presentKept_commandWrite h fun _ s => ?_
  split
  · exact PresentKept.complete (fun _ hs => presentSound_endPresent hs _ _) _
  · exact .refuse s _
  · exact .refuse s _

theorem presentKept_execSoftReset (h : execSoftReset s = .next t) : PresentKept s t := by
  refine presentKept_access h fun s => ?_
  split
  · exact (SteadyMarks.of_eq rfl rfl).presentKept
  · exact ((presentKept_softReset _).complete _).after rfl rfl rfl rfl

end Outcomes

/-! ### Every command -/

theorem exec_presentKept {c : Instr} {s t : State} (h : exec c s = .next t) : PresentKept s t := by
  cases c with
  | hardReset => cases h; exact fun _ _ => presentSound_hardReset s
  | hardResetEnd => exact presentKept_execHardResetEnd h
  | startUpClearRow => exact presentKept_execStartUpClearRow h
  | pixelWrite v =>
    exact presentKept_steadyAccess (show execPixelWrite v s = .next t from h) fun s => steadyMarks_writePixelData s v
  | pixelRead => exact presentKept_steadyAccess (show execPixelRead s = .next t from h) steadyMarks_readPixelData
  | windowWriteLanding => exact presentKept_execWindowWriteLanding h
  | latchLoad => exact presentKept_execLatchLoad h
  | fillRow =>
    exact presentKept_steadyEvent (show execFillRow s = .next t from h) fun s => .when fun _ => steadyMarks_endFillRow s
  | remapSweepPass => exact presentKept_steadyEvent (show execRemapSweepPass s = .next t from h) steadyMarks_sweepPass
  | walkerExamination =>
    exact presentKept_steadyEvent (show execWalkerExamination s = .next t from h) fun s => .when fun _ => steadyMarks_examine s
  | dispatchSelection k =>
    exact presentKept_steadyEvent (show execDispatchSelection k s = .next t from h) fun s => steadyMarks_select s k
  | captureGrantEnd k =>
    exact presentKept_steadyEvent (show execCaptureGrantEnd k s = .next t from h)
      fun s => .when fun _ => steadyMarks_endCapture s k
  | transmissionEnd k =>
    exact presentKept_steadyEvent (show execTransmissionEnd k s = .next t from h) fun s => .updateLink s k _
  | helloInterval k =>
    exact presentKept_steadyEvent (show execHelloInterval k s = .next t from h) fun s => .when fun _ => .updateLink s k _
  | attemptTimeout k =>
    exact presentKept_steadyEvent (show execAttemptTimeout k s = .next t from h)
      fun s => .when fun _ => steadyMarks_attemptTimedOut s k
  | helloNotice k seen n capacity restart =>
    exact presentKept_event (show execHelloNotice k seen n capacity restart s = .next t from h)
      fun s => presentKept_takeHello s k seen n capacity restart
  | ackNotice k q =>
    exact presentKept_event (show execAckNotice k q s = .next t from h)
      fun s => presentKept_notice s k fun s _ hs => presentSound_takeAck hs k q
  | nakNotice k q =>
    exact presentKept_event (show execNakNotice k q s = .next t from h)
      fun s => presentKept_notice s k fun s => presentKept_takeNak s k q
  | tileStatusNotice k p freed restart shown =>
    exact presentKept_event (show execTileStatusNotice k p freed restart shown s = .next t from h)
      fun s => presentKept_notice s k fun s => presentKept_takeTileStatus s k p freed restart shown
  | reportNotice k p tag capacity shown restart word =>
    exact presentKept_event (show execReportNotice k p tag capacity shown restart word s = .next t from h)
      fun s => presentKept_notice s k fun s => (steadyMarks_takeReport s k p tag capacity shown restart word).presentKept
  | idleNotice k => exact presentKept_event (show execIdleNotice k s = .next t from h) fun s => presentKept_notice s k .refl
  | invalidNotice k =>
    exact presentKept_steadyEvent (show execInvalidNotice k s = .next t from h) fun s => steadyMarks_badNotice s k
  | replayTimeout k =>
    exact presentKept_event (show execReplayTimeout k s = .next t from h)
      fun s => .when fun _ => presentKept_replayTimedOut s k
  | replayRetransmission k =>
    exact presentKept_steadyEvent (show execReplayRetransmission k s = .next t from h) fun s => steadyMarks_retransmit s k
  | reReadGrantEnd k =>
    exact presentKept_steadyEvent (show execReReadGrantEnd k s = .next t from h) fun s => .when fun _ => steadyMarks_endReRead s k
  | silenceTimeout k =>
    exact presentKept_event (show execSilenceTimeout k s = .next t from h)
      fun s => .when fun _ => presentKept_loseLink s k _ _
  | queryTimeout =>
    exact presentKept_steadyEvent (show execQueryTimeout s = .next t from h) fun s => .when fun _ => .of_eq rfl rfl
  | presentDeadline => exact presentKept_execPresentDeadline h
  | parameterWrite v =>
    exact presentKept_steadyAccess (show execParameterWrite v s = .next t from h) fun s => .of_eq rfl rfl
  | resultRead => exact presentKept_execResultRead h
  | commandStatusRead =>
    exact presentKept_steadyAccess (show execCommandStatusRead s = .next t from h) fun s => .of_eq rfl rfl
  | attentionRead => exact presentKept_steadyAccess (show execAttentionRead s = .next t from h) fun s => .of_eq rfl rfl
  | writeMaskWrite v =>
    exact presentKept_steadyAccess (show execWriteMaskWrite v s = .next t from h) fun s => .of_eq rfl rfl
  | interruptEnableWrite v =>
    exact presentKept_steadyAccess (show execInterruptEnableWrite v s = .next t from h) fun s => .of_eq rfl rfl
  | registerWrite location v =>
    exact presentKept_steadyAccess (show execRegisterWrite location v s = .next t from h) .refl
  | unknownCommand code => exact presentKept_execUnknownCommand h
  | configureWall =>
    exact presentKept_steadyCommand (show execConfigureWall s = .next t from h)
      fun _ s => .refuse_or (.refuse_or (.of_eq rfl rfl))
  | setWindow =>
    exact presentKept_steadyCommand (show execSetWindow s = .next t from h) fun _ s => .refuse_or (steadyMarks_takeWindowOp s _)
  | setPointer =>
    exact presentKept_steadyCommand (show execSetPointer s = .next t from h) fun _ s => .refuse_or (steadyMarks_takeWindowOp s _)
  | setMode =>
    exact presentKept_steadyCommand (show execSetMode s = .next t from h) fun _ s => .refuse_or (steadyMarks_takeWindowOp s _)
  | fill =>
    exact presentKept_steadyCommand (show execFill s = .next t from h)
      fun _ s => .refuse_or (.after (steadyMarks_takeWindowOp _ _) rfl rfl)
  | mapSet =>
    exact presentKept_steadyCommand (show execMapSet s = .next t from h) fun _ s => .refuse_or (steadyMarks_mapCommand s _)
  | mapRead =>
    exact presentKept_steadyCommand (show execMapRead s = .next t from h) fun _ s => .refuse_or (.of_eq rfl rfl)
  | setRollRegion =>
    exact presentKept_steadyCommand (show execSetRollRegion s = .next t from h) fun _ s => .refuse_or (steadyMarks_mapCommand s _)
  | roll =>
    exact presentKept_steadyCommand (show execRoll s = .next t from h)
      fun _ s => .refuse_or (.refuse_or (steadyMarks_mapCommand s _))
  | tileSet =>
    exact presentKept_steadyCommand (show execTileSet s = .next t from h) fun _ s => .refuse_or (.refuse_or (.of_eq rfl rfl))
  | tileEnable =>
    exact presentKept_steadyCommand (show execTileEnable s = .next t from h)
      fun _ s => .refuse_or (.refuse_or (.refuse_or (.refuse_or (.of_eq rfl rfl))))
  | tileDisable => exact presentKept_execTileDisable h
  | tileRead =>
    exact presentKept_steadyCommand (show execTileRead s = .next t from h) fun _ s => .refuse_or (.of_eq rfl rfl)
  | queryTile =>
    exact presentKept_steadyCommand (show execQueryTile s = .next t from h)
      fun _ s => .refuse_or (.refuse_or (.refuse_or (.refuse_or (.of_eq rfl rfl))))
  | queryRead => exact presentKept_steadyCommand (show execQueryRead s = .next t from h) fun _ s => .of_eq rfl rfl
  | cellRead =>
    exact presentKept_steadyCommand (show execCellRead s = .next t from h) fun _ s => .refuse_or (.of_eq rfl rfl)
  | setWalker =>
    exact presentKept_steadyCommand (show execSetWalker s = .next t from h) fun _ s => .refuse_or (.of_eq rfl rfl)
  | linkEnable => exact presentKept_execLinkEnable h
  | linkDisable => exact presentKept_execLinkDisable h
  | linkReset => exact presentKept_execLinkReset h
  | linkClearFlags =>
    exact presentKept_linkCommand (show execLinkClearFlags s = .next t from h)
      fun k s => (SteadyMarks.of_eq rfl rfl).presentKept
  | present => exact presentKept_execPresent h
  | cancelPresent => exact presentKept_execCancelPresent h
  | presentRead => exact presentKept_steadyCommand (show execPresentRead s = .next t from h) fun _ s => .of_eq rfl rfl
  | setTimer =>
    exact presentKept_steadyCommand (show execSetTimer s = .next t from h)
      fun _ s => .refuse_or (.refuse_or (.of_eq rfl rfl))
  | softReset => exact presentKept_execSoftReset h

/-- Settles O59: the marks and their count go through every arm of `exec`. -/
theorem stepKeepsThePresentSound : Obligations.StepKeepsThePresentSound := by
  intro s t hl _ hs h
  unfold step at h
  split at h
  · cases h
    exact hs
  · next c rest _ =>
    exact exec_presentKept h (linksSound_congr rfl rfl rfl hl) ((SteadyMarks.of_eq rfl rfl).presentSound hs)

end Sys2Proof.Machine

/-! ## CANCEL_PRESENT and PRESENT_DEADLINE (R158, R161, R162) -/

namespace Sys2Proof.Machine

open Sys2Proof.Safety

/-- The end of a present as one change of the state (R158). -/
theorem State.endPresent_eq (s : State) (o : PresentOutcome) (t : Option TileIdx) : ∃ x, s.endPresent o t = { s with
    cells := x
    present := { s.present with state := .idle, deadline := none, remaining := 0, outcome := o }
    attention := s.attention.append
      (.presentEnd o s.present.number t (if o == .partially then some s.present.shown else none)) } := by
  obtain ⟨x, p, a, e⟩ := s.endPresent_frame o t
  have present := s.present_endPresent o t
  have attention := s.attention_endPresent o t
  rw [e] at present attention ⊢
  exact ⟨x, by rw [← present, ← attention]⟩

/-- The end of a present by a command taken now, as one change of the state, its marks apart (R158, R181). -/
theorem State.complete_endPresent (s : State) (code : Byte) (o : PresentOutcome) (t : Option TileIdx) (ws : List Word) :
    { ((s.hostAccess.takeCommand code).endPresent o t).complete ws with cells := s.cells } = { s.hostAccess with
      cu := ended s code .ok ws
      present := { s.present with state := .idle, deadline := none, remaining := 0, outcome := o }
      attention := s.attention.append
        (.presentEnd o s.present.number t (if o == .partially then some s.present.shown else none)) } := by
  rw [s.hostAccess_eq_withHost]
  obtain ⟨x, e⟩ := ((s.withHost s.hostAccess.bus s.hostAccess.freeCount).takeCommand code).endPresent_eq o t
  rw [e]
  rfl

section Cancel

variable {s : State} (accepted : Accepted s [])
include accepted

theorem exec_cancelPresent_idle (idle : s.present.state = .idle) :
    exec .cancelPresent s = .next { s.hostAccess with cu := ended s 0x17 .state [] } := by
  have run : exec .cancelPresent s = .next _ := s.commandWrite_accepted _ _ _ _ accepted rfl
  simp only [run, State.present_takeCommand, State.present_hostAccess, idle, State.refuse_hostAccess_takeCommand]

theorem exec_cancelPresent_showing (showing : s.present.state = .showing) :
    exec .cancelPresent s = .next { s.hostAccess with cu := ended s 0x17 .tooLate [] } := by
  have run : exec .cancelPresent s = .next _ := s.commandWrite_accepted _ _ _ _ accepted rfl
  simp only [run, State.present_takeCommand, State.present_hostAccess, showing, State.refuse_hostAccess_takeCommand]

theorem exec_cancelPresent_collecting (collecting : s.present.state = .collecting) :
    exec .cancelPresent s = .next (((s.hostAccess.takeCommand 0x17).endPresent .cancelled none).complete []) := by
  have run : exec .cancelPresent s = .next _ := s.commandWrite_accepted _ _ _ _ accepted rfl
  simp only [run, State.present_takeCommand, State.present_hostAccess, collecting]

end Cancel

theorem exec_presentDeadline {s : State} (high : s.nReset = true) (runs : s.present.deadline ≠ none) :
    (s.present.state = .collecting → exec .presentDeadline s = .next (s.endPresent .timeout none)) ∧
    (s.present.state = .showing → exec .presentDeadline s = .next (s.endPresent .partially none)) := by
  have run : exec .presentDeadline s = .next _ := s.event_running _ high
  have started : s.present.deadline.isSome = true := Option.isSome_iff_ne_none.mpr runs
  refine ⟨fun collecting => ?_, fun showing => ?_⟩
  · simp only [run, started, if_true, collecting]
  · simp only [run, started, if_true, showing]

/-- Settles O50: each command by the state of the present; a present that ends is one change of the state, its marks apart. -/
theorem presentsEndByCancelAndDeadline : Obligations.PresentsEndByCancelAndDeadline := by
  refine ⟨fun s accepted => ⟨exec_cancelPresent_idle accepted, exec_cancelPresent_showing accepted, fun collecting => ?_⟩,
    fun s high runs => ⟨fun collecting => ?_, fun showing => ?_⟩⟩
  · refine ⟨_, exec_cancelPresent_collecting accepted collecting, fun u w => ?_, ?_⟩
    · rw [State.cell_complete, State.cell_endPresent, if_pos (by simpa using collecting), State.cell_takeCommand,
        State.cell_hostAccess]
    · exact s.complete_endPresent 0x17 .cancelled none []
  · refine ⟨_, (exec_presentDeadline high runs).1 collecting, fun u w => ?_, ?_⟩
    · rw [State.cell_endPresent, if_pos collecting]
    · obtain ⟨x, e⟩ := s.endPresent_eq .timeout none
      rw [e]
      rfl
  · have cells := State.cells_endPresent showing .partially none
    obtain ⟨x, e⟩ := s.endPresent_eq .partially none
    rw [e] at cells
    obtain rfl : x = s.cells := cells
    rw [(exec_presentDeadline high runs).2 showing, e]
    rfl

end Sys2Proof.Machine

/-! ## PRESENT (R152, R153, R156, R161) -/

namespace Sys2Proof.Machine

open Sys2Proof.Safety

theorem State.anyActive_iff (s : State) : s.anyActive = true ↔ ∃ u, (s.tile u).state = .active := by
  simp [State.anyActive, isActive_iff]

section Present

variable {s : State} (accepted : Accepted s [])
include accepted

theorem exec_present_busy (running : s.present.state ≠ .idle) :
    exec .present s = .next { s.hostAccess with cu := ended s 0x16 .busy [] } := by
  have run : exec .present s = .next _ := s.commandWrite_accepted _ _ _ _ accepted rfl
  cases state : s.present.state with
  | idle => exact absurd state running
  | collecting => simp only [run, State.present_takeCommand, State.present_hostAccess, state, State.refuse_hostAccess_takeCommand]
  | showing => simp only [run, State.present_takeCommand, State.present_hostAccess, state, State.refuse_hostAccess_takeCommand]

theorem exec_present_idle (idle : s.present.state = .idle) :
    ((∀ u, (s.tile u).state ≠ .active) → exec .present s = .next { s.hostAccess with cu := ended s 0x16 .noTiles [] }) ∧
    ((∃ u, (s.tile u).state = .active) → exec .present s = .next
      ((s.hostAccess.takeCommand 0x16).cut.complete [(s.present.number + 1).setWidth 16])) := by
  have run : exec .present s = .next _ := s.commandWrite_accepted _ _ _ _ accepted rfl
  have any : (s.hostAccess.takeCommand 0x16).anyActive = true ↔ ∃ u, (s.tile u).state = .active := by
    simp only [State.anyActive_iff, State.tile_takeCommand, State.tile_hostAccess]
  simp only [State.present_takeCommand, State.present_hostAccess, idle, numWord_toNat] at run
  refine ⟨fun nobody => ?_, fun somebody => ?_⟩
  · rw [run, if_neg (any.not.mpr fun ⟨u, active⟩ => nobody u active), State.refuse_hostAccess_takeCommand]
  · rw [run, if_pos (any.mpr somebody)]

end Present

/-! ### What the cut leaves -/

section Cut

variable (s : State)

/-- A cut marks cells and begins the present, which shows at once where nothing is to be delivered (R152, R153, R156). -/
theorem State.cut_frame : ∃ x l, s.cut = { s with
    cells := x
    present := { s.cutRecord with state := if s.markCount s.cutParticipants = 0 then .showing else .collecting }
    links := l } := by
  obtain ⟨x, collect⟩ := s.collect_frame
  rw [State.cut_eq]
  split
  · obtain ⟨l, e⟩ := s.collect.enterShowing_frame
    rw [e, collect]
    exact ⟨x, l, rfl⟩
  · rw [collect]
    exact ⟨x, s.links, rfl⟩

theorem State.present_cut : s.cut.present =
    { s.cutRecord with state := if s.markCount s.cutParticipants = 0 then .showing else .collecting } := by
  obtain ⟨x, l, e⟩ := s.cut_frame
  rw [e]

theorem State.cell_cut (u : TileIdx) (w : WallBand) : s.cut.cell u w = s.collect.cell u w := by
  rw [State.cut_eq]
  split
  · obtain ⟨l, e⟩ := s.collect.enterShowing_frame
    rw [e]
    rfl
  · rfl

/-- With something to deliver the links stay (R153). -/
theorem State.links_cut (deliver : s.markCount s.cutParticipants ≠ 0) : s.cut.links = s.links := by
  obtain ⟨x, collect⟩ := s.collect_frame
  rw [State.cut_eq, if_neg deliver, collect]

/-- With nothing to deliver the SHOW entries join their links (R156). -/
theorem State.entries_cut (clean : s.markCount s.cutParticipants = 0) (k : Link) :
    (s.cut.link k).queue ++ (s.cut.link k).backlog = (s.link k).queue ++ (s.link k).backlog ++
      showEntries s k (s.present.number + 1) fun u => (s.tile u).state == .active := by
  have participates : TileSet.has s.cutParticipants = fun u => (s.tile u).state == .active :=
    funext fun _ => State.has_cutParticipants
  obtain ⟨x, collect⟩ := s.collect_frame
  rw [State.cut_eq, if_pos clean, State.entries_enterShowing, collect, ← participates]
  rfl

/-- The cut and the end of its command change the Command Unit, cells, the present and links, and nothing else. -/
theorem State.complete_cut (code : Byte) (ws : List Word) :
    { (s.hostAccess.takeCommand code).cut.complete ws with cells := s.cells, present := s.present, links := s.links } =
      { s.hostAccess with cu := ended s code .ok ws } := by
  rw [s.hostAccess_eq_withHost]
  obtain ⟨x, l, e⟩ := ((s.withHost s.hostAccess.bus s.hostAccess.freeCount).takeCommand code).cut_frame
  rw [e]
  rfl

end Cut

/-- Settles O49: refusals by the state of the present and the tiles; the cut by whether it marks a cell. -/
theorem presentCutsAndCollects : Obligations.PresentCutsAndCollects := by
  intro s accepted number deadline marks
  refine ⟨exec_present_busy accepted, fun idle => (exec_present_idle accepted idle).1, fun idle somebody => ?_⟩
  have frame := s.complete_cut 0x16 [number.setWidth 16]
  refine ⟨_, (exec_present_idle accepted idle).2 somebody, congrArg State.cu frame, ?_⟩
  have tile : ∀ v, (s.hostAccess.takeCommand 0x16).tile v = s.tile v := fun v => by simp
  have cell : ∀ v w, (s.hostAccess.takeCommand 0x16).cell v w = s.cell v w := fun v w => by simp
  have link : ∀ k, (s.hostAccess.takeCommand 0x16).link k = s.link k := s.link_taken 0x16
  have links : (s.hostAccess.takeCommand 0x16).links = s.links := by simp
  have present : (s.hostAccess.takeCommand 0x16).present = s.present := by simp
  have timers : (s.hostAccess.takeCommand 0x16).timers = s.timers := by simp
  generalize s.hostAccess.takeCommand 0x16 = u at frame tile cell link links present timers
  have marked : ∀ v w, u.marksAtCut u.cutParticipants v w = true ↔ marks v w := fun v w => by
    rw [State.marksAtCut_iff, tile, cell]
  have nothing : u.markCount u.cutParticipants = 0 ↔ ∀ v w, ¬ marks v w := by
    simp only [State.markCount_eq_zero_iff, tile, cell]
    rfl
  have record := (State.present_complete u.cut [number.setWidth 16]).trans u.present_cut
  refine ⟨fun v w => ?_, fun v => ?_, ?_, ?_, ?_, ?_, fun deliver => ?_, fun clean => ?_, ?_⟩
  · rw [State.cell_complete, State.cell_cut, State.cell_collect, cell]
    exact ⟨fun h => if_pos ((marked v w).mpr h), fun h => if_neg ((marked v w).not.mpr h)⟩
  · rw [record, ← tile]
    exact State.has_cutParticipants
  · rw [record]
    exact congrArg (fun p : PresentRecord => p.number + 1) present
  · rw [record]
    rfl
  · rw [record]
    rfl
  · rw [record]
    exact congrArg (fun t : TimerSettings => if t.presentDeadline = 0 then none else some t.presentDeadline) timers
  · obtain ⟨v, w, dirty⟩ := deliver
    have unclean : u.markCount u.cutParticipants ≠ 0 := nothing.not.mpr fun clean => clean v w dirty
    rw [if_neg unclean] at record
    rw [State.links_complete, u.links_cut unclean, record]
    refine ⟨rfl, Nat.one_le_iff_ne_zero.mpr unclean, links, fun unmarked => ?_⟩
    have counted := markedCells_collect (s := u) fun v w => (congrArg CellRecord.marked (cell v w)).trans (unmarked v w)
    simp only [markedCells, State.cell_complete, State.cell_cut]
    exact counted.symm
  · have empty := nothing.mpr clean
    rw [if_pos empty] at record
    rw [record]
    refine ⟨rfl, empty, fun k => ?_⟩
    have entries := u.entries_cut empty k
    simp only [link, present, showEntries, tile] at entries
    rw [State.link_complete]
    exact entries
  · generalize u.cut.complete [number.setWidth 16] = t at frame
    have kept := congrArg (fun t : State => { t with cu := s.cu }) frame
    rw [s.hostAccess_eq_withHost] at kept ⊢
    exact kept

end Sys2Proof.Machine

/-! ## Packed words (R185 to R187) -/

namespace Sys2Proof.Machine

/-- A place in a packed word and the number that stands in it, as `field` takes them. -/
structure BitField where
  lo : Nat
  width : Nat
  value : Nat

/-- What a field adds to the number that its word is. -/
def BitField.weight (f : BitField) : Nat := f.value % 2 ^ f.width * 2 ^ f.lo

/-- The fields stand one above the other in the bits from `low` up, none past bit 15. -/
def BitField.Ascending (low : Nat) : List BitField → Prop
  | [] => True
  | f :: fs => low ≤ f.lo ∧ f.lo + f.width ≤ 16 ∧ Ascending (f.lo + f.width) fs

theorem BitField.weight_le (f : BitField) : f.weight + 2 ^ f.lo ≤ 2 ^ (f.lo + f.width) := by
  calc f.weight + 2 ^ f.lo = (f.value % 2 ^ f.width + 1) * 2 ^ f.lo := (Nat.succ_mul _ _).symm
    _ ≤ 2 ^ f.width * 2 ^ f.lo := Nat.mul_le_mul_right _ (Nat.mod_lt _ (Nat.two_pow_pos _))
    _ = 2 ^ (f.lo + f.width) := by rw [← Nat.pow_add, Nat.add_comm]

theorem toNat_field {lo width : Nat} (v : Nat) (fits : lo + width ≤ 16) :
    (field lo width v).toNat = v % 2 ^ width * 2 ^ lo := by
  have weight : v % 2 ^ width * 2 ^ lo + 2 ^ lo ≤ 2 ^ (lo + width) := BitField.weight_le ⟨lo, width, v⟩
  have word : 2 ^ (lo + width) ≤ 2 ^ 16 := Nat.pow_le_pow_right (by decide) fits
  have one : 0 < 2 ^ lo := Nat.two_pow_pos lo
  rw [field, BitVec.toNat_ofNat]
  exact Nat.mod_eq_of_lt (by omega)

/-- A field above the bits that a word uses adds its weight, for no bit of the two meets. -/
theorem toNat_or_field {a : Word} {lo width : Nat} (v : Nat) (below : a.toNat < 2 ^ lo) (fits : lo + width ≤ 16) :
    (a ||| field lo width v).toNat = a.toNat + v % 2 ^ width * 2 ^ lo := by
  rw [BitVec.toNat_or, toNat_field v fits, Nat.or_comm, Nat.mul_comm, ← Nat.two_pow_add_eq_or_of_lt below, Nat.add_comm]

theorem toNat_foldl_or_fields {low : Nat} {a : Word} (below : a.toNat < 2 ^ low) (fs : List BitField)
    (ascending : BitField.Ascending low fs) :
    ((fs.map fun f => field f.lo f.width f.value).foldl (· ||| ·) a).toNat = a.toNat + (fs.map BitField.weight).sum := by
  induction fs generalizing low a with
  | nil => rfl
  | cons f fs ih =>
    obtain ⟨above, fits, rest⟩ := ascending
    have under : a.toNat < 2 ^ f.lo := below.trans_le (Nat.pow_le_pow_right (by decide) above)
    have joined : (a ||| field f.lo f.width f.value).toNat = a.toNat + f.weight := toNat_or_field f.value under fits
    have next : (a ||| field f.lo f.width f.value).toNat < 2 ^ (f.lo + f.width) := by
      have := f.weight_le
      omega
    rw [List.map_cons, List.foldl_cons, ih next rest, joined, List.map_cons, List.sum_cons, Nat.add_assoc]

/-- A word packed of ascending fields is the sum of their weights. -/
theorem toNat_pack (fs : List BitField) (ascending : BitField.Ascending 0 fs) :
    (pack (fs.map fun f => field f.lo f.width f.value)).toNat = (fs.map BitField.weight).sum := by
  rw [pack, toNat_foldl_or_fields (by decide) fs ascending]
  exact Nat.zero_add _

end Sys2Proof.Machine

/-! ## The Attention Queue (R170 to R172, R187) -/

namespace Sys2Proof.Machine

section ReadOut

variable {a : Attention}

theorem Attention.read_within {w : Word} {rest : List Word} (within : a.readOut = w :: rest) :
    a.nextWord = w ∧ a.read = { a with readOut := rest } := by
  simp [Attention.nextWord, Attention.read, within]

theorem Attention.read_oldest {r : AttentionRecord} {rest : List AttentionRecord} (done : a.readOut = [])
    (oldest : a.records = r :: rest) :
    a.nextWord = r.word1 ∧ a.read = { a with records := rest, readOut := [r.event.word2, r.event.word3] } := by
  simp [Attention.nextWord, Attention.read, done, oldest]

theorem Attention.read_none (done : a.readOut = []) (empty : a.records = []) :
    a.nextWord = 0 ∧ a.read = { a with readOut := [0, 0] } := by
  simp [Attention.nextWord, Attention.read, done, empty]

end ReadOut

theorem exec_attentionRead {s : State} (high : s.nReset = true) {w : Word} {a : Attention}
    (read : s.attention.nextWord = w ∧ s.attention.read = a) :
    exec .attentionRead s = .next { s.hostAccess with bus := { s.hostAccess.bus with data := w }, attention := a } := by
  obtain ⟨rfl, rfl⟩ := read
  change execAttentionRead s = _
  simp [execAttentionRead, high, State.deliver]

/-! ### The three words of a record (Table 11-8) -/

/-- Word 1 holds the kind, the gap mark, and the link and the tile with their presence bits. -/
theorem AttentionRecord.toNat_word1 (r : AttentionRecord) :
    r.word1.toNat = r.event.kind + 16 * r.gap.toNat + (r.event.link.elim 0 fun k => 32 + 64 * k.val) +
      (r.event.tile.elim 0 fun t => 256 + 512 * t.val) := by
  have packed := toNat_pack
    [⟨0, 4, r.event.kind⟩, ⟨4, 1, r.gap.toNat⟩,
      ⟨5, 1, r.event.link.isSome.toNat⟩, ⟨6, 2, (r.event.link.map (·.val)).getD 0⟩,
      ⟨8, 1, r.event.tile.isSome.toNat⟩, ⟨9, 4, (r.event.tile.map (·.val)).getD 0⟩] (by simp [BitField.Ascending])
  change r.word1.toNat = _ at packed
  have kind : r.event.kind < 16 := by cases r.event <;> simp [AttentionEvent.kind]
  have gap : r.gap.toNat < 2 := r.gap.toNat_lt
  have link : r.event.link.isSome.toNat % 2 * 32 + (r.event.link.map (·.val)).getD 0 % 4 * 64 =
      r.event.link.elim 0 fun k => 32 + 64 * k.val := by
    cases r.event.link with
    | none => rfl
    | some k =>
      change 1 % 2 * 32 + k.val % 4 * 64 = 32 + 64 * k.val
      omega
  have tile : r.event.tile.isSome.toNat % 2 * 256 + (r.event.tile.map (·.val)).getD 0 % 16 * 512 =
      r.event.tile.elim 0 fun t => 256 + 512 * t.val := by
    cases r.event.tile with
    | none => rfl
    | some t =>
      change 1 % 2 * 256 + t.val % 16 * 512 = 256 + 512 * t.val
      omega
  simp only [BitField.weight, List.map_cons, List.map_nil, List.sum_cons, List.sum_nil] at packed
  omega

/-- A word of a code in its low bits and a byte in its upper half. -/
theorem toNat_pack_code_byte {width code : Nat} (n : Byte) (fits : width ≤ 8) (small : code < 2 ^ width) :
    (pack [field 0 width code, field 8 8 n.toNat]).toNat = code + 256 * n.toNat := by
  have packed := toNat_pack [⟨0, width, code⟩, ⟨8, 8, n.toNat⟩] (by simp [BitField.Ascending]; omega)
  have low : code % 2 ^ width = code := Nat.mod_eq_of_lt small
  have byte : n.toNat % 2 ^ 8 = n.toNat := Nat.mod_eq_of_lt n.isLt
  simp only [BitField.weight, List.map_cons, List.map_nil, List.sum_cons, List.sum_nil, low, byte] at packed
  omega

/-- A word that holds a number in its low bits and nothing else. -/
theorem toNat_field_zero {width v : Nat} (fits : width ≤ 16) (small : v < 2 ^ width) : (field 0 width v).toNat = v := by
  rw [toNat_field v (by omega), Nat.mod_eq_of_lt small, Nat.pow_zero, Nat.mul_one]

theorem LossReason.code_lt (r : LossReason) : r.code < 8 := by cases r <;> decide

theorem PresentOutcome.code_lt (o : PresentOutcome) : o.code < 8 := by cases o <;> decide

theorem QueryOutcome.code_lt (o : QueryOutcome) : o.code < 4 := by cases o <;> decide

section Words

variable (k : Link) (t : TileIdx) (p : Position) (n : Byte)

theorem AttentionEvent.toNat_word2_linkLost (r : LossReason) : (linkLost k r).word2.toNat = r.code :=
  toNat_field_zero (by decide) r.code_lt

theorem AttentionEvent.toNat_word2_linkFault {m : Nat} (small : m ≤ 15) : (linkFault k m).word2.toNat = m :=
  toNat_field_zero (by decide) (Nat.lt_succ_of_le small)

theorem AttentionEvent.toNat_word2_tileMissing : (tileMissing k t p).word2.toNat = p.val :=
  toNat_field_zero (by decide) p.isLt

theorem AttentionEvent.toNat_word2_presentEnd (o : PresentOutcome) (u : Option TileIdx) (shown : Option TileSet) :
    (presentEnd o n u shown).word2.toNat = o.code + 256 * n.toNat :=
  toNat_pack_code_byte n (by decide) o.code_lt

theorem AttentionEvent.toNat_word2_queryEnd (o : QueryOutcome) :
    (queryEnd k t o n).word2.toNat = o.code + 256 * n.toNat :=
  toNat_pack_code_byte n (by decide) o.code_lt

/-- Bit 2 says that bits 1 and 0 name a position (R187). -/
theorem AttentionEvent.toNat_word2_creditExcess_position : (creditExcess k (.position p)).word2.toNat = p.val + 4 := by
  have packed := toNat_pack [⟨0, 2, p.val⟩, ⟨2, 1, 1⟩] (by simp [BitField.Ascending])
  change (creditExcess k (.position p)).word2.toNat = _ at packed
  simp only [BitField.weight, List.map_cons, List.map_nil, List.sum_cons, List.sum_nil] at packed
  omega

end Words

/-- The three words of a record as numbers. -/
def AttentionRecord.wordNats (r : AttentionRecord) : Nat × Nat × Nat :=
  (r.word1.toNat, r.event.word2.toNat, r.event.word3.toNat)

/-- The words of a record from its second word's number; the first word's number is the same sum for every kind. -/
theorem AttentionRecord.wordNats_eq {e : AttentionEvent} {n : Nat} (gap : Bool) (second : e.word2.toNat = n) :
    (⟨e, gap⟩ : AttentionRecord).wordNats =
      (e.kind + 16 * gap.toNat + (e.link.elim 0 fun k => 32 + 64 * k.val) +
        (e.tile.elim 0 fun t => 256 + 512 * t.val), n, e.word3.toNat) := by
  rw [AttentionRecord.wordNats, AttentionRecord.toNat_word1, second]

open AttentionRecord AttentionEvent in
/-- Settles O19: the read by what the read-out and the queue hold, the writing by the queue's room, and the words kind by kind. -/
theorem attentionQueueGivesThreeWords : Obligations.AttentionQueueGivesThreeWords := by
  refine ⟨fun s high => ⟨fun w rest within => ?_, fun r rest done oldest => ?_, fun done empty => ?_⟩,
    fun a e => ⟨fun room => ?_, fun full => ?_⟩, fun k t p gap => ?_⟩
  · exact exec_attentionRead high (Attention.read_within within)
  · exact exec_attentionRead high (Attention.read_oldest done oldest)
  · exact exec_attentionRead high (Attention.read_none done empty)
  · exact if_pos room
  · exact if_neg full.not_gt
  · have linkLost := fun r => wordNats_eq gap (toNat_word2_linkLost k r)
    have presentEnd := fun n o u shown => wordNats_eq gap (toNat_word2_presentEnd n o u shown)
    have queryEnd := fun n o => wordNats_eq gap (toNat_word2_queryEnd k t n o)
    refine ⟨wordNats_eq gap rfl, linkLost .replayLimit, linkLost .silence, linkLost .partnerHello, linkLost .tileRestart,
      linkLost .host, fun n small => wordNats_eq gap (toNat_word2_linkFault k small), wordNats_eq gap rfl,
      wordNats_eq gap (toNat_word2_tileMissing k t p), fun n => ?_, wordNats_eq gap rfl,
      wordNats_eq gap (toNat_word2_creditExcess_position k p)⟩
    exact ⟨presentEnd n .done none none,
      fun shown => ⟨presentEnd n .partially (some t) (some shown), presentEnd n .partially none (some shown)⟩,
      presentEnd n .failed (some t) none, presentEnd n .timeout none none, presentEnd n .cancelled none none,
      queryEnd n .done, queryEnd n .timeout, queryEnd n .lost⟩

end Sys2Proof.Machine

/-! ## Every command keeps the store's form and the FIFOs within their depths (R168, R171, R178, R181) -/

namespace Sys2Proof.Machine

open Sys2Proof.Safety

/-! ### Records written (R170) -/

/-- Between two states some records, or none, were written to the Attention Queue, and nothing was read from it. -/
def RecordsWritten (s t : State) : Prop := ∃ es : List AttentionEvent, t.attention = es.foldl Attention.append s.attention

theorem Attention.readOut_append (a : Attention) (e : AttentionEvent) : (a.append e).readOut = a.readOut := by
  unfold Attention.append
  split <;> rfl

/-- A record joins only a queue that has room for it (R170). -/
theorem Attention.length_records_append {a : Attention} (fits : a.records.length ≤ 16) (e : AttentionEvent) :
    (a.append e).records.length ≤ 16 := by
  unfold Attention.append
  split
  · next room =>
    rw [List.length_append]
    exact room
  · exact fits

theorem Attention.bounded_foldl_append {a : Attention} (es : List AttentionEvent)
    (fits : a.records.length ≤ 16 ∧ a.readOut.length ≤ 2) :
    (es.foldl Attention.append a).records.length ≤ 16 ∧ (es.foldl Attention.append a).readOut.length ≤ 2 := by
  induction es generalizing a with
  | nil => exact fits
  | cons e es ih => exact ih ⟨Attention.length_records_append fits.1 e, by rw [Attention.readOut_append]; exact fits.2⟩

namespace RecordsWritten

variable {s t u : State}

theorem of_eq (attention : t.attention = s.attention) : RecordsWritten s t := ⟨[], attention⟩

theorem refl (s : State) : RecordsWritten s s := of_eq rfl

theorem trans (h : RecordsWritten s t) (g : RecordsWritten t u) : RecordsWritten s u := by
  obtain ⟨es, first⟩ := h
  obtain ⟨es', later⟩ := g
  exact ⟨es ++ es', by rw [later, first, List.foldl_append]⟩

theorem foldl {α : Type} {f : State → α → State} (h : ∀ s a, RecordsWritten s (f s a)) (l : List α) (s : State) :
    RecordsWritten s (l.foldl f s) := by
  induction l generalizing s with
  | nil => exact refl s
  | cons a l ih => exact (h s a).trans (ih _)

theorem updateLink (s : State) (k : Link) (f : LinkSlice → LinkSlice) : RecordsWritten s (s.updateLink k f) := of_eq rfl

/-- Departures write the records of the present and the query that they end (R41, R170). -/
theorem of_departed {a : Attention} {ts : List TileIdx} {es : List Entry} (h : Departed s t a ts es)
    (before : ∃ fs : List AttentionEvent, a = fs.foldl Attention.append s.attention) : RecordsWritten s t := by
  obtain ⟨-, -, -, -, written | written⟩ := h
  all_goals
    obtain ⟨fs, rfl⟩ := before
    exact ⟨fs ++ _, written.trans List.foldl_append.symm⟩

end RecordsWritten

namespace State

variable (s : State) (k : Link)

/-! ### Presents, queries and releases (R41, R50 to R52, R152 to R161) -/

theorem recordsWritten_endPresent (o : PresentOutcome) (t : Option TileIdx) : RecordsWritten s (s.endPresent o t) :=
  ⟨[_], s.attention_endPresent o t⟩

theorem recordsWritten_endQuery (o : QueryOutcome) : RecordsWritten s (s.endQuery o) := ⟨[_], rfl⟩

theorem recordsWritten_enterShowing : RecordsWritten s s.enterShowing := by
  obtain ⟨l, e⟩ := State.appendShows_frame { s with present.state := .showing }
  rw [State.enterShowing, e]
  exact .of_eq rfl

theorem recordsWritten_cut : RecordsWritten s s.cut := by
  have marked : ∀ S p, RecordsWritten s { s.setMarks S with present := p } := fun _ _ => .of_eq rfl
  simp only [State.cut]
  split
  · exact (marked _ _).trans (recordsWritten_enterShowing _)
  · exact marked _ _

theorem recordsWritten_reportShow (t : TileIdx) (n : Byte) : RecordsWritten s (s.reportShow t n) := by
  simp only [State.reportShow]
  split
  · split
    · exact (RecordsWritten.of_eq rfl).trans (recordsWritten_endPresent _ _ _)
    · exact .of_eq rfl
  · exact .refl s

theorem recordsWritten_releaseEffect (r : HoldRecord) : RecordsWritten s (s.releaseEffect r) := by
  rcases s.releaseEffect_cases r with ⟨-, e⟩ | ⟨w, -, -, e⟩ | ⟨n, -, -, e⟩
  · rw [e]
    exact .refl s
  · rw [e, State.releaseEffect.ackCellOf]
    split
    · obtain ⟨p, l, reported⟩ := (s.ackCell r.tile w).reportClearedMark_frame
      rw [reported]
      exact .of_eq rfl
    · exact .of_eq rfl
  · rw [e]
    exact s.recordsWritten_reportShow _ _

theorem recordsWritten_disableTile (t : TileIdx) : RecordsWritten s (s.disableTile t) := by
  by_cases active : (s.tile t).isActive = true
  · exact .of_departed (departed_disableTile active) ⟨[], rfl⟩
  · simp only [State.disableTile, if_neg active]
    exact .of_eq rfl

/-! ### Dispatch (R84 to R93, R125) -/

theorem recordsWritten_giveUpReRead : RecordsWritten s (s.giveUpReRead k) := by
  unfold State.giveUpReRead
  split
  · split <;> exact .of_eq rfl
  all_goals exact .refl s

theorem recordsWritten_examine : RecordsWritten s s.examine := by
  simp only [State.examine]
  split <;> exact .of_eq rfl

theorem recordsWritten_completeDispatch (e : Entry) (body : HoldBody) (payload : List Word) :
    RecordsWritten s (s.completeDispatch k e body payload) := by
  obtain ⟨l, x, eq, -⟩ := s.completeDispatch_frame k e body payload
  rw [eq]
  exact .of_eq rfl

theorem recordsWritten_select : RecordsWritten s (s.select k) := by
  unfold State.select
  split
  · split
    · exact .refl s
    · split
      · exact s.recordsWritten_completeDispatch k _ _ _
      · exact .of_eq rfl
    · exact s.recordsWritten_completeDispatch k _ _ _
    · exact s.recordsWritten_completeDispatch k _ _ _
  · exact .refl s

theorem recordsWritten_endCapture : RecordsWritten s (s.endCapture k) := by
  have completed : ∀ e body payload, RecordsWritten s (s.completeDispatch k e body payload).releaseGrant :=
    fun e body payload => (s.recordsWritten_completeDispatch k e body payload).trans (.of_eq rfl)
  unfold State.endCapture
  split
  · split
    · exact completed _ _ _
    · split
      · exact completed _ _ _
      · exact .of_eq rfl
  · exact .of_eq rfl
  all_goals exact .refl s

/-! ### Attempts, entry to UP and loss (R40, R115 to R118, R131) -/

theorem recordsWritten_attemptTimedOut : RecordsWritten s (s.attemptTimedOut k) := by
  simp only [State.attemptTimedOut]
  split
  · exact ⟨[_], rfl⟩
  · exact .of_eq rfl

theorem recordsWritten_enterUp (n : BitVec 3) (capacity restart : Vector Nibble 4) :
    RecordsWritten s (s.enterUp k n capacity restart) :=
  ⟨_ :: _, State.attention_enterUp⟩

theorem recordsWritten_loseLink (reason : LossReason) (off : Bool) : RecordsWritten s (s.loseLink k reason off) :=
  .of_departed (departed_loseLink s k reason off) ⟨[_], rfl⟩

/-! ### Acknowledgement and replay (R119 to R128) -/

theorem recordsWritten_release (n : Nat) : RecordsWritten s (s.release k n) := by
  simp only [State.release]
  split
  · exact .refl s
  · have effects : ∀ l, RecordsWritten s (((s.link k).hold.take n).foldl State.releaseEffect (s.setLink k l)) :=
      fun l => (RecordsWritten.of_eq rfl).trans (.foldl recordsWritten_releaseEffect _ _)
    split
    · exact effects _
    · split
      · exact ((effects _).trans (recordsWritten_giveUpReRead _ k)).trans (.updateLink ..)
      · exact effects _

theorem recordsWritten_countReplay (q : SeqNo) : RecordsWritten s (s.countReplay k q) := by
  have counted := RecordsWritten.updateLink s k fun l => { l with replayCount := (s.link k).replayCount + 1 }
  simp only [State.countReplay]
  split
  · exact counted.trans (recordsWritten_loseLink _ k _ _)
  · exact (counted.trans (recordsWritten_giveUpReRead _ k)).trans (.updateLink ..)

theorem recordsWritten_replayTimedOut : RecordsWritten s (s.replayTimedOut k) := by
  unfold State.replayTimedOut
  split
  · exact s.recordsWritten_countReplay k _
  · exact .refl s

theorem recordsWritten_retransmit : RecordsWritten s (s.retransmit k) := by
  unfold State.retransmit
  split
  · exact .refl s
  · split <;> exact .of_eq rfl

theorem recordsWritten_endReRead : RecordsWritten s (s.endReRead k) := by
  unfold State.endReRead
  split
  · split <;> exact .of_eq rfl
  · exact .of_eq rfl
  all_goals exact .refl s

/-! ### Notices (R102, R104, R108, R109) -/

theorem recordsWritten_notice {f : State → State} (hf : ∀ s, RecordsWritten s (f s)) : RecordsWritten s (s.notice k f) := by
  unfold State.notice
  split
  · exact (RecordsWritten.updateLink ..).trans (hf _)
  all_goals exact .refl s

theorem recordsWritten_badNotice : RecordsWritten s (s.badNotice k) := by
  unfold State.badNotice
  split
  · exact .updateLink ..
  · exact .updateLink ..
  all_goals exact .refl s

theorem recordsWritten_takeHello (seen : Bool) (n : BitVec 3) (capacity restart : Vector Nibble 4) :
    RecordsWritten s (s.takeHello k seen n capacity restart) := by
  unfold State.takeHello
  split
  · split
    · have heard := RecordsWritten.updateLink s k fun l => { l with partnerHeard := true }
      simp only []
      split
      · exact heard.trans (recordsWritten_enterUp _ k n capacity restart)
      · exact heard
    · exact (RecordsWritten.updateLink ..).trans (recordsWritten_loseLink _ k _ _)
    all_goals exact .refl s
  · exact s.recordsWritten_badNotice k

theorem recordsWritten_takeAck (q : SeqNo) : RecordsWritten s (s.takeAck k q) := by
  simp only [State.takeAck]
  split
  · split
    · exact s.recordsWritten_release k _
    · exact .refl s
  · exact .updateLink ..

theorem recordsWritten_takeNak (q : SeqNo) : RecordsWritten s (s.takeNak k q) := by
  simp only [State.takeNak]
  split
  · split
    · exact (s.recordsWritten_release k _).trans (recordsWritten_countReplay _ k q)
    · exact s.recordsWritten_release k _
  · exact .updateLink ..

theorem recordsWritten_takeTileStatus (p : Position) (freed : Byte) (restart : Nibble) (shown : Byte) :
    RecordsWritten s (s.takeTileStatus k p freed restart shown) := by
  simp only [State.takeTileStatus]
  split
  · exact .updateLink ..
  · split
    · exact s.recordsWritten_loseLink k _ _
    · split
      · exact ⟨[_], rfl⟩
      · exact .of_eq rfl

theorem recordsWritten_takeReport (p : Position) (tag : Byte) (capacity : Nibble) (shown : Byte) (restart : Nibble)
    (word : BitVec 32) : RecordsWritten s (s.takeReport k p tag capacity shown restart word) := by
  unfold State.takeReport
  split
  · exact ⟨[_], rfl⟩
  · exact .of_eq rfl

end State

/-! ### The two rules through an operation -/

/-- The store's canonical form and the FIFOs' depths go from one state to another. -/
structure DepthsKept (s t : State) : Prop where
  store : StoreForm s → StoreForm t
  fifos : FifosBounded s → FifosBounded t

namespace DepthsKept

variable {s t u : State}

/-- The store and the Command Unit are as they were, and records may have been written. -/
theorem of_written (store : t.store = s.store) (cu : t.cu = s.cu) (written : RecordsWritten s t) : DepthsKept s t := by
  refine ⟨fun form => ?_, fun ⟨params, results, queue⟩ => ?_⟩
  · rwa [StoreForm, store]
  · obtain ⟨es, attention⟩ := written
    rw [FifosBounded, cu, attention]
    exact ⟨params, results, Attention.bounded_foldl_append es queue⟩

theorem of_eq (store : t.store = s.store) (cu : t.cu = s.cu) (attention : t.attention = s.attention) : DepthsKept s t :=
  of_written store cu (.of_eq attention)

theorem of_linkSideWork (work : LinkSideWork s t) (written : RecordsWritten s t) : DepthsKept s t :=
  of_written (by rw [work.kept]) (by rw [work.kept]) written

/-- The store is written, in its canonical form. -/
theorem of_store {m : List Host.Cell} (form : Memory.wf s.store = true → Memory.wf m = true) (store : t.store = m)
    (cu : t.cu = s.cu) (attention : t.attention = s.attention) : DepthsKept s t := by
  refine ⟨fun before => ?_, fun fits => ?_⟩
  · rw [StoreForm, store]
    exact form before
  · rwa [FifosBounded, cu, attention]

/-- The Command Unit's FIFOs change within their depths. -/
theorem of_cu (store : t.store = s.store) (attention : t.attention = s.attention)
    (params : s.cu.params.length ≤ 8 → t.cu.params.length ≤ 8)
    (results : s.cu.results.length ≤ 8 → t.cu.results.length ≤ 8) : DepthsKept s t := by
  refine ⟨fun form => ?_, fun ⟨paramsFit, resultsFit, queue⟩ => ?_⟩
  · rwa [StoreForm, store]
  · rw [FifosBounded, attention]
    exact ⟨params paramsFit, results resultsFit, queue⟩

theorem refl (s : State) : DepthsKept s s := of_eq rfl rfl rfl

theorem trans (h : DepthsKept s t) (g : DepthsKept t u) : DepthsKept s u := ⟨g.store ∘ h.store, g.fifos ∘ h.fifos⟩

/-- What keeps the rules from a state on with the same store, Command Unit and Attention Queue. -/
theorem after (g : DepthsKept t u) (store : t.store = s.store) (cu : t.cu = s.cu) (attention : t.attention = s.attention) :
    DepthsKept s u := (of_eq store cu attention).trans g

theorem when {p : Prop} [Decidable p] (h : p → DepthsKept s t) : DepthsKept s (if p then t else s) := by
  split
  · next hp => exact h hp
  · exact refl s

/-- A command that ends returns at most the eight words that the result FIFO holds (R181). -/
theorem finish (h : DepthsKept s t) (r : ResultCode) {ws : List Word} (fits : ws.length ≤ 8) :
    DepthsKept s (t.finish r ws) := h.trans (of_cu rfl rfl id fun _ => fits)

theorem complete (h : DepthsKept s t) {ws : List Word} (fits : ws.length ≤ 8) : DepthsKept s (t.complete ws) :=
  h.finish _ fits

/-- A command that ends with no result word. -/
theorem done (h : DepthsKept s t) : DepthsKept s (t.complete []) := h.complete (Nat.zero_le 8)

/-- A command that ends with one result word. -/
theorem answer (h : DepthsKept s t) {w : Word} : DepthsKept s (t.complete [w]) := h.complete (Nat.le_add_left 1 7)

theorem refuse (s : State) (r : ResultCode) : DepthsKept s (s.refuse r) := (refl s).finish r (Nat.zero_le 8)

theorem refuse_or {p : Prop} [Decidable p] {r : ResultCode} (h : DepthsKept s t) :
    DepthsKept s (if p then s.refuse r else t) := by
  split
  · exact refuse s r
  · exact h

/-- A taken command has emptied both FIFOs of the Command Unit (R179). -/
theorem takeCommand (s : State) (code : Byte) : DepthsKept s (s.takeCommand code) :=
  of_cu rfl rfl (fun _ => Nat.zero_le 8) fun _ => Nat.zero_le 8

end DepthsKept

/-! ### The window side, the sweep and SOFT RESET -/

section HostSide

variable (s : State)

theorem depthsKept_hostAccess : DepthsKept s s.hostAccess := .of_eq s.store_hostAccess s.cu_hostAccess s.attention_hostAccess

/-- What is held for the window side leaves the store, and ends at most a SET MODE (R7, R12). -/
theorem depthsKept_runHeld (held : List HeldOp) : DepthsKept s (State.runHeld held s) := by
  induction held generalizing s with
  | nil => exact .of_eq rfl rfl rfl
  | cons op rest ih =>
    cases op with
    | pixelRead =>
      simp only [State.runHeld, State.readLatch_eq]
      split
      · exact .after (ih _) rfl rfl rfl
      · exact .of_eq rfl rfl rfl
    | setMode o m =>
      have ended : DepthsKept s (({ s with window := { s.window with order := o, modify := m } } : State).complete []) :=
        .done (.of_eq rfl rfl rfl)
      exact ended.trans (ih _)
    | pixelWrite _ => exact .of_eq rfl rfl rfl
    | setWindow _ => exact .of_eq rfl rfl rfl
    | setPointer _ _ => exact .of_eq rfl rfl rfl
    | fillStart => exact .of_eq rfl rfl rfl

theorem depthsKept_takeWindowOp (op : HeldOp) : DepthsKept s (s.takeWindowOp op) := by
  simp only [State.takeWindowOp]
  split
  · exact depthsKept_runHeld s _
  · exact .of_eq rfl rfl rfl

theorem depthsKept_writePixelData (v : Word) : DepthsKept s (s.writePixelData v) := by
  unfold State.writePixelData
  split
  · exact .of_eq rfl rfl rfl
  · exact .after (depthsKept_takeWindowOp _ _) rfl rfl rfl

theorem depthsKept_readPixelData : DepthsKept s s.readPixelData := by
  unfold State.readPixelData
  split
  · exact .of_eq rfl rfl rfl
  · exact .after (depthsKept_takeWindowOp _ _) rfl rfl rfl

theorem depthsKept_land (v : Word) : DepthsKept s (s.land v) := by
  rw [State.land_eq]
  exact .of_store (Memory.wf_writePixel _ _ _ _ _) rfl rfl rfl

theorem depthsKept_endFillRow : DepthsKept s s.endFillRow := by
  have store : s.endFillRow.store = Memory.writeRow s.store s.fill.mask s.fill.rect.x0 s.fill.rect.x1
      (Fin.ofNat 512 s.fill.row) s.fill.value := by rw [State.endFillRow_eq]
  exact .of_store (Memory.wf_writeRow _ _ _ _ _ _) store (by rw [State.endFillRow_eq]) (by rw [State.endFillRow_eq])

theorem depthsKept_endClearRow : DepthsKept s s.endClearRow := by
  have store : s.endClearRow.store = Memory.writeRow s.store 0xFFFF 0 511 (Fin.ofNat 512 s.fill.clearRow) 0 := by
    rw [State.endClearRow_eq]
  exact .of_store (Memory.wf_writeRow _ _ _ _ _ _) store (by rw [State.endClearRow_eq]) (by rw [State.endClearRow_eq])

theorem depthsKept_endLoad (cause : LoadCause) : DepthsKept s (s.endLoad cause) := by
  have filled : DepthsKept s
      (State.releaseGrant { s with window.latch := Memory.pixel s.store s.window.x s.window.y }) := .of_eq rfl rfl rfl
  have loaded : DepthsKept s (State.loadEnded
      (State.releaseGrant { s with window.latch := Memory.pixel s.store s.window.x s.window.y }) cause) := by
    cases cause with
    | access => exact filled
    | command => exact filled.done
    | fillEnd => exact .done (.of_eq rfl rfl rfl)
    | clearEnd => exact .of_eq rfl rfl rfl
  exact loaded.trans (depthsKept_runHeld _ _)

theorem depthsKept_mapCommand (m : BandMap) : DepthsKept s (s.mapCommand m) := by
  unfold State.mapCommand
  split
  · exact .done (.of_eq rfl rfl rfl)
  · exact .of_eq rfl rfl rfl

theorem depthsKept_sweepPass : DepthsKept s s.sweepPass := by
  unfold State.sweepPass
  split
  · next w rest _ =>
    have swept : DepthsKept s (s.sweepBand w) := .of_eq rfl rfl rfl
    simp only []
    generalize s.sweepBand w = u at swept
    split
    · exact swept.trans (.done (.of_eq rfl rfl rfl))
    · exact swept.trans (.of_eq rfl rfl rfl)
  · exact .refl s

/-- SOFT RESET empties the Attention Queue and its read-out, and leaves the FIFOs of the Command Unit (R168, R184). -/
theorem depthsKept_softReset : DepthsKept s s.softReset := by
  have kept := (linkSideWork_softResetLinks s).kept
  unfold State.softReset
  generalize (List.finRange 4).foldl State.softResetLink s = u at kept
  rw [kept]
  exact ⟨id, fun ⟨params, results, _⟩ => ⟨params, results, Nat.zero_le 16, Nat.zero_le 2⟩⟩

theorem depthsKept_hardReset : DepthsKept s s.hardReset :=
  ⟨fun _ => rfl, fun _ => ⟨Nat.zero_le 8, Nat.zero_le 8, Nat.zero_le 16, Nat.zero_le 2⟩⟩

end HostSide

/-! ### Events, accesses and command writes -/

section Outcomes

variable {s t : State}

theorem depthsKept_event {f : State → State} (h : s.event f = .next t) (hf : ∀ s, DepthsKept s (f s)) : DepthsKept s t := by
  obtain rfl : (if s.nReset then f s else s) = t := by simpa [State.event] using h
  exact .when fun _ => hf s

theorem depthsKept_access {f : State → State} (h : s.access f = .next t) (hf : ∀ s, DepthsKept s (f s)) : DepthsKept s t :=
  depthsKept_event h fun s => (depthsKept_hostAccess s).trans (hf _)

/-- A command write whose own rule keeps the rules; a collision and the first checks do. -/
theorem depthsKept_commandWrite {code : Byte} {n : Nat} {body : List Word → State → State}
    (h : s.commandWrite code n body = .next t) (hb : ∀ ps s, DepthsKept s (body ps s)) : DepthsKept s t := by
  refine depthsKept_access h fun s => ?_
  have taken := DepthsKept.takeCommand s code
  rcases s.command_cases code n body with ⟨-, e⟩ | ⟨-, r, -, e⟩ | ⟨-, -, -, -, e⟩
  · rw [e]
    exact .of_cu rfl rfl id id
  · rw [e, ← State.finish_takeCommand]
    exact taken.finish r (Nat.zero_le 8)
  · rw [e]
    exact taken.trans (hb _ _)

theorem depthsKept_linkCommand {code : Byte} {body : Link → State → State} (h : s.linkCommand code body = .next t)
    (hb : ∀ k s, DepthsKept s (body k s)) : DepthsKept s t :=
  depthsKept_commandWrite h fun _ s => .refuse_or (hb _ s)

/-- A notice that its block takes with link-side work, writing records. -/
theorem depthsKept_notice {k : Link} {f : State → State} (h : s.event (·.notice k f) = .next t)
    (work : ∀ s, LinkSideWork s (f s)) (written : ∀ s, RecordsWritten s (f s)) : DepthsKept s t :=
  depthsKept_event h fun s => .of_linkSideWork (s.linkSideWork_notice k work) (s.recordsWritten_notice k written)

theorem depthsKept_loseLink (s : State) (k : Link) (reason : LossReason) (off : Bool) :
    DepthsKept s (s.loseLink k reason off) :=
  .of_linkSideWork (s.linkSideWork_loseLink k reason off) (s.recordsWritten_loseLink k reason off)

theorem depthsKept_endPresent (s : State) (o : PresentOutcome) (u : Option TileIdx) : DepthsKept s (s.endPresent o u) :=
  .of_linkSideWork (s.linkSideWork_endPresent o u) (s.recordsWritten_endPresent o u)

/-! ### Commands with a case split of their own -/

theorem depthsKept_execHardResetEnd (h : execHardResetEnd s = .next t) : DepthsKept s t := by
  simp only [execHardResetEnd, Host.Outcome.next.injEq] at h
  subst h
  split
  · exact .refl s
  · exact .of_eq rfl rfl rfl

theorem depthsKept_execWindowWriteLanding (h : execWindowWriteLanding s = .next t) : DepthsKept s t := by
  refine depthsKept_event h fun s => ?_
  split
  · exact .when fun _ => depthsKept_land s _
  all_goals exact .refl s

theorem depthsKept_execLatchLoad (h : execLatchLoad s = .next t) : DepthsKept s t := by
  refine depthsKept_event h fun s => ?_
  split
  · exact .when fun _ => depthsKept_endLoad s _
  all_goals exact .refl s

theorem depthsKept_execPresentDeadline (h : execPresentDeadline s = .next t) : DepthsKept s t := by
  refine depthsKept_event h fun s => .when fun _ => ?_
  split
  · exact depthsKept_endPresent s _ _
  · exact depthsKept_endPresent s _ _
  · exact .refl s

/-- A word joins the parameter FIFO only below its depth (R178). -/
theorem depthsKept_execParameterWrite {v : Word} (h : execParameterWrite v s = .next t) : DepthsKept s t := by
  refine depthsKept_access h fun s => .of_cu rfl rfl (fun fits => ?_) fun fits => ?_
  · simp only [CommandUnit.addParameter]
    split
    · next room =>
      rw [List.length_append]
      exact room
    · exact fits
  · simp only [CommandUnit.addParameter]
    split <;> exact fits

theorem depthsKept_execResultRead (h : execResultRead s = .next t) : DepthsKept s t := by
  refine depthsKept_access h fun s => ?_
  split
  · exact .of_eq rfl rfl rfl
  · next w rest results =>
    refine .of_cu rfl rfl id fun fits => ?_
    rw [results] at fits
    exact Nat.le_of_succ_le fits

/-- A read pops a record and leaves its other two words in the read-out (R171, R172). -/
theorem depthsKept_execAttentionRead (h : execAttentionRead s = .next t) : DepthsKept s t := by
  refine depthsKept_access h fun s => ⟨id, fun ⟨params, results, records, readOut⟩ => ⟨params, results, ?_⟩⟩
  change s.attention.read.records.length ≤ 16 ∧ s.attention.read.readOut.length ≤ 2
  unfold Attention.read
  split
  · next rest within =>
    rw [within] at readOut
    exact ⟨records, Nat.le_of_succ_le readOut⟩
  · split
    · next oldest =>
      rw [oldest] at records
      exact ⟨Nat.le_of_succ_le records, Nat.le_refl 2⟩
    · exact ⟨records, Nat.le_refl 2⟩

theorem depthsKept_execUnknownCommand {code : Word} (h : execUnknownCommand code s = .next t) : DepthsKept s t := by
  unfold execUnknownCommand at h
  split at h
  · cases h
  · refine depthsKept_access h fun s => ?_
    split
    · exact .of_cu rfl rfl id id
    · exact (DepthsKept.takeCommand s 0xFF).trans (.refuse _ _)

theorem depthsKept_execTileDisable (h : execTileDisable s = .next t) : DepthsKept s t := by
  refine depthsKept_commandWrite h fun _ s => .refuse_or ?_
  split
  · exact (DepthsKept.of_linkSideWork (s.linkSideWork_disableTile _) (s.recordsWritten_disableTile _)).done
  · exact .refuse s _

theorem depthsKept_execLinkEnable (h : execLinkEnable s = .next t) : DepthsKept s t := by
  refine depthsKept_linkCommand h fun k s => ?_
  split
  · exact .done (.of_eq rfl rfl rfl)
  all_goals exact .refuse s _

theorem depthsKept_execLinkDisable (h : execLinkDisable s = .next t) : DepthsKept s t := by
  refine depthsKept_linkCommand h fun k s => ?_
  split
  · exact .done (.refl s)
  · exact .done (.of_eq rfl rfl rfl)
  · exact .done (.of_eq rfl rfl rfl)
  · exact .done (depthsKept_loseLink s k _ _)

theorem depthsKept_execLinkReset (h : execLinkReset s = .next t) : DepthsKept s t := by
  refine depthsKept_linkCommand h fun k s => ?_
  split
  · exact .refuse s _
  · exact .done (.of_eq rfl rfl rfl)
  · exact .done (.of_eq rfl rfl rfl)
  · exact .done (depthsKept_loseLink s k _ _)

theorem depthsKept_execPresent (h : execPresent s = .next t) : DepthsKept s t := by
  refine depthsKept_commandWrite h fun _ s => ?_
  split
  · exact .refuse s _
  · exact .refuse s _
  · split
    · exact (DepthsKept.of_linkSideWork s.linkSideWork_cut s.recordsWritten_cut).answer
    · exact .refuse s _

theorem depthsKept_execCancelPresent (h : execCancelPresent s = .next t) : DepthsKept s t := by
  refine depthsKept_commandWrite h fun _ s => ?_
  split
  · exact .done (depthsKept_endPresent s _ _)
  all_goals exact .refuse s _

theorem depthsKept_execSoftReset (h : execSoftReset s = .next t) : DepthsKept s t := by
  refine depthsKept_access h fun s => ?_
  split
  · exact .of_cu rfl rfl id id
  · exact ((DepthsKept.takeCommand s 0x1A).trans (depthsKept_softReset _)).done

end Outcomes

/-! ### Every command -/

theorem exec_depthsKept {c : Instr} {s t : State} (h : exec c s = .next t) : DepthsKept s t := by
  cases c with
  | hardReset =>
    cases h
    exact depthsKept_hardReset s
  | hardResetEnd => exact depthsKept_execHardResetEnd h
  | startUpClearRow =>
    exact depthsKept_event (show execStartUpClearRow s = .next t from h) fun s => .when fun _ => depthsKept_endClearRow s
  | pixelWrite v =>
    exact depthsKept_access (show execPixelWrite v s = .next t from h) fun s => depthsKept_writePixelData s v
  | pixelRead => exact depthsKept_access (show execPixelRead s = .next t from h) depthsKept_readPixelData
  | windowWriteLanding => exact depthsKept_execWindowWriteLanding h
  | latchLoad => exact depthsKept_execLatchLoad h
  | fillRow =>
    exact depthsKept_event (show execFillRow s = .next t from h) fun s => .when fun _ => depthsKept_endFillRow s
  | remapSweepPass => exact depthsKept_event (show execRemapSweepPass s = .next t from h) depthsKept_sweepPass
  | walkerExamination =>
    exact depthsKept_event (show execWalkerExamination s = .next t from h)
      fun s => .when fun _ => .of_linkSideWork s.linkSideWork_examine s.recordsWritten_examine
  | dispatchSelection k =>
    exact depthsKept_event (show execDispatchSelection k s = .next t from h)
      fun s => .of_linkSideWork (s.linkSideWork_select k) (s.recordsWritten_select k)
  | captureGrantEnd k =>
    exact depthsKept_event (show execCaptureGrantEnd k s = .next t from h) fun s => .when fun holds =>
      .of_linkSideWork (s.linkSideWork_endCapture k (holder_of_holds holds)) (s.recordsWritten_endCapture k)
  | transmissionEnd k =>
    exact depthsKept_event (show execTransmissionEnd k s = .next t from h) fun _ => .of_eq rfl rfl rfl
  | helloInterval k =>
    exact depthsKept_event (show execHelloInterval k s = .next t from h) fun _ => .when fun _ => .of_eq rfl rfl rfl
  | attemptTimeout k =>
    exact depthsKept_event (show execAttemptTimeout k s = .next t from h) fun s => .when fun _ =>
      .of_linkSideWork (s.linkSideWork_attemptTimedOut k) (s.recordsWritten_attemptTimedOut k)
  | helloNotice k seen n capacity restart =>
    exact depthsKept_event (show execHelloNotice k seen n capacity restart s = .next t from h) fun s =>
      .of_linkSideWork (s.linkSideWork_takeHello k seen n capacity restart) (s.recordsWritten_takeHello k seen n capacity restart)
  | ackNotice k q =>
    exact depthsKept_notice (show execAckNotice k q s = .next t from h)
      (fun s => s.linkSideWork_takeAck k q) fun s => s.recordsWritten_takeAck k q
  | nakNotice k q =>
    exact depthsKept_notice (show execNakNotice k q s = .next t from h)
      (fun s => s.linkSideWork_takeNak k q) fun s => s.recordsWritten_takeNak k q
  | tileStatusNotice k p freed restart shown =>
    exact depthsKept_notice (show execTileStatusNotice k p freed restart shown s = .next t from h)
      (fun s => s.linkSideWork_takeTileStatus k p freed restart shown)
      fun s => s.recordsWritten_takeTileStatus k p freed restart shown
  | reportNotice k p tag capacity shown restart word =>
    exact depthsKept_notice (show execReportNotice k p tag capacity shown restart word s = .next t from h)
      (fun s => s.linkSideWork_takeReport k p tag capacity shown restart word)
      fun s => s.recordsWritten_takeReport k p tag capacity shown restart word
  | idleNotice k => exact depthsKept_notice (show execIdleNotice k s = .next t from h) .refl .refl
  | invalidNotice k =>
    exact depthsKept_event (show execInvalidNotice k s = .next t from h)
      fun s => .of_linkSideWork (s.linkSideWork_badNotice k) (s.recordsWritten_badNotice k)
  | replayTimeout k =>
    exact depthsKept_event (show execReplayTimeout k s = .next t from h) fun s => .when fun _ =>
      .of_linkSideWork (s.linkSideWork_replayTimedOut k) (s.recordsWritten_replayTimedOut k)
  | replayRetransmission k =>
    exact depthsKept_event (show execReplayRetransmission k s = .next t from h)
      fun s => .of_linkSideWork (s.linkSideWork_retransmit k) (s.recordsWritten_retransmit k)
  | reReadGrantEnd k =>
    exact depthsKept_event (show execReReadGrantEnd k s = .next t from h) fun s => .when fun holds =>
      .of_linkSideWork (s.linkSideWork_endReRead k (holder_of_holds holds)) (s.recordsWritten_endReRead k)
  | silenceTimeout k =>
    exact depthsKept_event (show execSilenceTimeout k s = .next t from h)
      fun s => .when fun _ => depthsKept_loseLink s k _ _
  | queryTimeout =>
    exact depthsKept_event (show execQueryTimeout s = .next t from h)
      fun s => .when fun _ => .of_linkSideWork (s.linkSideWork_endQuery _) (s.recordsWritten_endQuery _)
  | presentDeadline => exact depthsKept_execPresentDeadline h
  | parameterWrite v => exact depthsKept_execParameterWrite h
  | resultRead => exact depthsKept_execResultRead h
  | commandStatusRead =>
    exact depthsKept_access (show execCommandStatusRead s = .next t from h) fun _ => .of_cu rfl rfl id id
  | attentionRead => exact depthsKept_execAttentionRead h
  | writeMaskWrite v =>
    exact depthsKept_access (show execWriteMaskWrite v s = .next t from h) fun _ => .of_eq rfl rfl rfl
  | interruptEnableWrite v =>
    exact depthsKept_access (show execInterruptEnableWrite v s = .next t from h) fun _ => ⟨id, id⟩
  | registerWrite location v => exact depthsKept_access (show execRegisterWrite location v s = .next t from h) .refl
  | unknownCommand code => exact depthsKept_execUnknownCommand h
  | configureWall =>
    exact depthsKept_commandWrite (show execConfigureWall s = .next t from h)
      fun _ _ => .refuse_or (.refuse_or (.done (.of_eq rfl rfl rfl)))
  | setWindow =>
    exact depthsKept_commandWrite (show execSetWindow s = .next t from h)
      fun _ s => .refuse_or (depthsKept_takeWindowOp s _)
  | setPointer =>
    exact depthsKept_commandWrite (show execSetPointer s = .next t from h)
      fun _ s => .refuse_or (depthsKept_takeWindowOp s _)
  | setMode =>
    exact depthsKept_commandWrite (show execSetMode s = .next t from h)
      fun _ s => .refuse_or (depthsKept_takeWindowOp s _)
  | fill =>
    exact depthsKept_commandWrite (show execFill s = .next t from h)
      fun _ _ => .refuse_or (.after (depthsKept_takeWindowOp _ _) rfl rfl rfl)
  | mapSet =>
    exact depthsKept_commandWrite (show execMapSet s = .next t from h) fun _ s => .refuse_or (depthsKept_mapCommand s _)
  | mapRead =>
    exact depthsKept_commandWrite (show execMapRead s = .next t from h)
      fun _ s => .refuse_or ((DepthsKept.refl s).complete (by simp [BandMap.readWords]))
  | setRollRegion =>
    exact depthsKept_commandWrite (show execSetRollRegion s = .next t from h)
      fun _ s => .refuse_or (depthsKept_mapCommand s _)
  | roll =>
    exact depthsKept_commandWrite (show execRoll s = .next t from h)
      fun _ s => .refuse_or (.refuse_or (depthsKept_mapCommand s _))
  | tileSet =>
    exact depthsKept_commandWrite (show execTileSet s = .next t from h)
      fun _ _ => .refuse_or (.refuse_or (.done (.of_eq rfl rfl rfl)))
  | tileEnable =>
    exact depthsKept_commandWrite (show execTileEnable s = .next t from h) fun _ _ =>
      .refuse_or (.refuse_or (.refuse_or (.refuse_or (.answer (.of_eq (by rfl) (by rfl) (by rfl))))))
  | tileDisable => exact depthsKept_execTileDisable h
  | tileRead =>
    exact depthsKept_commandWrite (show execTileRead s = .next t from h)
      fun _ s => .refuse_or ((DepthsKept.refl s).complete (by simp [State.tileReadWords]))
  | queryTile =>
    exact depthsKept_commandWrite (show execQueryTile s = .next t from h) fun _ _ =>
      .refuse_or (.refuse_or (.refuse_or (.refuse_or (.answer (.of_eq (by rfl) (by rfl) (by rfl))))))
  | queryRead =>
    exact depthsKept_commandWrite (show execQueryRead s = .next t from h)
      fun _ s => (DepthsKept.refl s).complete (by simp [QueryRecord.words])
  | cellRead =>
    exact depthsKept_commandWrite (show execCellRead s = .next t from h)
      fun _ s => .refuse_or ((DepthsKept.refl s).complete (by simp [State.cellReadWords]))
  | setWalker =>
    exact depthsKept_commandWrite (show execSetWalker s = .next t from h)
      fun _ _ => .refuse_or (.done (.of_eq rfl rfl rfl))
  | linkEnable => exact depthsKept_execLinkEnable h
  | linkDisable => exact depthsKept_execLinkDisable h
  | linkReset => exact depthsKept_execLinkReset h
  | linkClearFlags =>
    exact depthsKept_linkCommand (show execLinkClearFlags s = .next t from h) fun _ _ => .done (.of_eq rfl rfl rfl)
  | present => exact depthsKept_execPresent h
  | cancelPresent => exact depthsKept_execCancelPresent h
  | presentRead =>
    exact depthsKept_commandWrite (show execPresentRead s = .next t from h)
      fun _ s => (DepthsKept.refl s).complete (by simp [PresentRecord.words])
  | setTimer =>
    exact depthsKept_commandWrite (show execSetTimer s = .next t from h)
      fun _ _ => .refuse_or (.refuse_or (.done (.of_eq rfl rfl rfl)))
  | softReset => exact depthsKept_execSoftReset h

/-- Settles O52: the two rules go through every arm of `exec`; link-side work only writes attention records. -/
theorem stepKeepsStoreFormAndDepths : Obligations.StepKeepsStoreFormAndDepths := by
  intro s t h
  unfold step at h
  split at h
  · cases h
    exact ⟨id, id⟩
  · next c rest _ =>
    have kept := exec_depthsKept h
    exact ⟨kept.store, kept.fifos⟩

end Sys2Proof.Machine

/-! ## The Command Unit: commands taken, refused and collided with, and its own locations (R178 to R183) -/

namespace Sys2Proof.Machine

open Sys2Proof.Safety

/-! ### Collisions (R180) -/

/-- A listed command other than SOFT RESET is one write of its code and parameter count with a rule of its own. -/
theorem exec_eq_commandWrite {c : Instr} {code : Byte} {n : Nat} (row : commandRow c = some (code, n))
    (other : c ≠ .softReset) : ∃ body : List Word → State → State, ∀ s, exec c s = s.commandWrite code n body := by
  cases c with
  | softReset => exact absurd rfl other
  | _ => cases row <;> exact ⟨_, fun _ => rfl⟩

/-- Every write of a code to COMMAND collides while the unit is BUSY, and is taken otherwise. -/
theorem exec_eq_collide_or {c : Instr}
    (command : (commandRow c).isSome = true ∨ ∃ code, c = .unknownCommand code ∧ c.WellFormed = true) :
    ∃ taken : State → State, ∀ s, exec c s = s.access fun s => if s.cu.busy then s.collide else taken s := by
  rcases command with listed | ⟨code, rfl, wellFormed⟩
  · obtain ⟨⟨code, n⟩, row⟩ := Option.isSome_iff_exists.mp listed
    by_cases soft : c = .softReset
    · exact ⟨fun s => (s.takeCommand 0x1A).softReset.complete [], fun s => by rw [soft]; rfl⟩
    · obtain ⟨body, run⟩ := exec_eq_commandWrite row soft
      exact ⟨_, run⟩
  · exact ⟨_, fun s => if_neg (by simpa [Instr.WellFormed] using wellFormed)⟩

theorem State.collide_hostAccess (s : State) :
    s.hostAccess.collide = { s.hostAccess with cu := { s.cu with collision := true } } := by
  simp [State.collide]

/-- Settles O6: every command write begins with the same check. -/
theorem commandsCollideWhileBusy : Obligations.CommandsCollideWhileBusy := by
  intro c s high busy command
  obtain ⟨taken, run⟩ := exec_eq_collide_or command
  rw [run, State.access_running _ _ high, if_pos (by simpa using busy), State.collide_hostAccess]

/-! ### The first four checks (R179) -/

section Checks

variable {s : State} {code : Byte} {n : Nat} {body : List Word → State → State}

/-- A check that refuses a command ends it with that check's result code. -/
theorem State.commandWrite_refused (high : s.nReset = true) {r : ResultCode}
    (refused : s.hostAccess.command code n body = (s.hostAccess.takeCommand code).refuse r) :
    s.commandWrite code n body = .next { s.hostAccess with cu := ended s code r [] } := by
  rw [State.commandWrite, State.access_running _ _ high, refused, State.refuse_hostAccess_takeCommand]

/-- Check 2 and the second half of check 3: LONG. -/
theorem State.command_long (idle : s.cu.busy = false) (long : s.cu.overflow = true ∨ n < s.cu.params.length) :
    s.command code n body = (s.takeCommand code).refuse .long := by
  cases overflow : s.cu.overflow with
  | true => simp [State.command, idle, overflow]
  | false =>
    have more : n < s.cu.params.length := by simpa [overflow] using long
    simp [State.command, idle, overflow, more, Nat.lt_asymm more]

/-- The first half of check 3: SHORT. -/
theorem State.command_short (idle : s.cu.busy = false) (overflow : s.cu.overflow = false) (short : s.cu.params.length < n) :
    s.command code n body = (s.takeCommand code).refuse .short := by
  simp [State.command, idle, overflow, short]

/-- Check 4: NOT_READY. -/
theorem State.command_notReady (idle : s.cu.busy = false) (overflow : s.cu.overflow = false)
    (count : s.cu.params.length = n) (notReady : s.notReady = true) :
    s.command code n body = (s.takeCommand code).refuse .notReady := by
  simp [State.command, idle, overflow, count, notReady]

end Checks

/-- Check 1: a word that is no listed code is taken as FFh and refused with UNKNOWN. -/
theorem exec_unknownCommand {code : Word} {s : State} (unlisted : code.toNat = 0 ∨ 26 < code.toNat) (high : s.nReset = true)
    (idle : s.cu.busy = false) :
    exec (.unknownCommand code) s = .next { s.hostAccess with cu := ended s 0xFF .unknown [] } := by
  have notListed : ¬ Config.listedCode code = true := by
    rw [Config.listedCode, Bool.and_eq_true, decide_eq_true_eq, decide_eq_true_eq]
    change ¬ (1 ≤ code.toNat ∧ code.toNat ≤ 26)
    omega
  change execUnknownCommand code s = _
  rw [execUnknownCommand, if_neg notListed, State.access_running _ _ high, if_neg (by simp [idle]),
    State.refuse_hostAccess_takeCommand]

/-- Settles O7: check 1 has a command of its own; checks 2 to 4 are made alike for every listed command but SOFT RESET. -/
theorem firstFourChecksRefuse : Obligations.FirstFourChecksRefuse := by
  refine ⟨fun code s unlisted high idle => exec_unknownCommand unlisted high idle,
    fun c code n s row other high idle => ?_⟩
  obtain ⟨body, run⟩ := exec_eq_commandWrite row other
  simp only [run]
  refine ⟨fun long => ?_, fun overflow short => ?_, fun overflow count notReady => ?_⟩
  · exact State.commandWrite_refused high (State.command_long (by simpa) (by simpa))
  · exact State.commandWrite_refused high (State.command_short (by simpa) (by simpa) (by simpa))
  · exact State.commandWrite_refused high (State.command_notReady (by simpa) (by simpa) (by simpa) (by simpa))

/-! ### PARAMETER, RESULT and COMMAND STATUS (R178, R181, R182) -/

section Locations

variable {s : State}

theorem exec_parameterWrite_room (high : s.nReset = true) (v : Word) (room : s.cu.params.length < 8) :
    exec (.parameterWrite v) s = .next { s.hostAccess with cu := { s.cu with params := s.cu.params ++ [v] } } := by
  change execParameterWrite v s = _
  rw [execParameterWrite, State.access_running _ _ high, State.cu_hostAccess, CommandUnit.addParameter, if_pos (by exact room)]

theorem exec_parameterWrite_full (high : s.nReset = true) (v : Word) (full : 8 ≤ s.cu.params.length) :
    exec (.parameterWrite v) s = .next { s.hostAccess with cu := { s.cu with overflow := true } } := by
  change execParameterWrite v s = _
  rw [execParameterWrite, State.access_running _ _ high, State.cu_hostAccess, CommandUnit.addParameter,
    if_neg (by exact Nat.not_lt.mpr full)]

theorem exec_resultRead_word (high : s.nReset = true) {w : Word} {rest : List Word} (results : s.cu.results = w :: rest) :
    exec .resultRead s = .next { s.hostAccess with
      bus := { s.hostAccess.bus with data := w }, cu := { s.cu with results := rest } } := by
  change execResultRead s = _
  simp [execResultRead, high, results, State.deliver]

theorem exec_resultRead_empty (high : s.nReset = true) (empty : s.cu.results = []) :
    exec .resultRead s = .next { s.hostAccess with bus := { s.hostAccess.bus with data := 0 } } := by
  change execResultRead s = _
  simp [execResultRead, high, empty, State.deliver]

theorem exec_commandStatusRead (high : s.nReset = true) :
    exec .commandStatusRead s = .next { s.hostAccess with
      bus := { s.hostAccess.bus with data := s.cu.status }, cu := { s.cu with done := false, collision := false } } := by
  change execCommandStatusRead s = _
  simp [execCommandStatusRead, high, State.deliver]

end Locations

/-- Settles O18: a write by the room of the parameter FIFO, a read by what the result FIFO holds, and the flags. -/
theorem commandUnitFifosAndFlags : Obligations.CommandUnitFifosAndFlags := fun _ high =>
  ⟨exec_parameterWrite_room high, exec_parameterWrite_full high, fun _ _ => exec_resultRead_word high,
    exec_resultRead_empty high, exec_commandStatusRead high⟩

/-! ### SET TIMER (R183) -/

/-- The selectors of Table 11-5. -/
theorem selector_cases {i : Word} (named : i.toNat ≤ 6) :
    i = 0 ∨ i = 1 ∨ i = 2 ∨ i = 3 ∨ i = 4 ∨ i = 5 ∨ i = 6 := by
  bv_omega

/-- A setting and a value that SET TIMER accepts (Table 11-5). -/
def TimerFits (i v : Word) : Prop :=
  i.toNat ≤ 6 ∧ (timerRange i.toNat).1 ≤ v.toNat ∧ v.toNat ≤ (timerRange i.toNat).2

/-- Table 11-5 as the statement writes it. -/
theorem timerFits_iff (i v : Word) : TimerFits i v ↔
    i.toNat ≤ 4 ∧ 1 ≤ v.toNat ∧ v.toNat ≤ 255 ∧ (i = 1 → v.toNat ≤ 7) ∧ (i = 4 → v.toNat ≤ 15) ∨ i = 5 ∨
      i = 6 ∧ 1 ≤ v.toNat ∧ v.toNat ≤ 255 := by
  by_cases named : i.toNat ≤ 6
  · have word := v.isLt
    rcases selector_cases named with rfl | rfl | rfl | rfl | rfl | rfl | rfl <;> simp [TimerFits, timerRange] <;> omega
  · have noSetting : i ≠ 5 ∧ i ≠ 6 := ⟨by rintro rfl; exact named (by decide), by rintro rfl; exact named (by decide)⟩
    have beyond : ¬ i.toNat ≤ 4 := by omega
    simpa [TimerFits, named, beyond] using ⟨noSetting.1, fun e => absurd e noSetting.2⟩

/-- The one setting that is written (Table 11-5). -/
theorem TimerSettings.write_eq (t : TimerSettings) {i : Word} (named : i.toNat ≤ 6) (n : Nat) : t.write i.toNat n =
    ⟨if i = 0 then n else t.replayTimeout, if i = 1 then n else t.replayLimit, if i = 2 then n else t.silenceTimeout,
      if i = 3 then n else t.attemptTime, if i = 4 then n else t.attemptLimit, if i = 5 then n else t.presentDeadline,
      if i = 6 then n else t.queryTimeout⟩ := by
  rcases selector_cases named with rfl | rfl | rfl | rfl | rfl | rfl | rfl <;> rfl

section SetTimer

variable {i v : Word} {s : State}

theorem exec_setTimer_range (accepted : Accepted s [i, v]) (bad : ¬ TimerFits i v) :
    exec .setTimer s = .next { s.hostAccess with cu := ended s 0x19 .range [] } := by
  have run : exec .setTimer s = .next _ := s.commandWrite_accepted _ _ _ _ accepted rfl
  rw [run, ← State.refuse_hostAccess_takeCommand]
  congr 1
  split
  · rfl
  · next named =>
    refine if_pos ?_
    change ¬ 6 < i.toNat at named
    change v.toNat < (timerRange i.toNat).1 ∨ (timerRange i.toNat).2 < v.toNat
    rw [TimerFits] at bad
    omega

theorem exec_setTimer_ok (accepted : Accepted s [i, v]) (good : TimerFits i v) :
    exec .setTimer s =
      .next { s.hostAccess with cu := ended s 0x19 .ok [], timers := s.timers.write i.toNat v.toNat } := by
  obtain ⟨named, least, most⟩ := good
  have run : exec .setTimer s = .next _ := s.commandWrite_accepted _ _ _ _ accepted rfl
  have inside : ¬ (v.toNat < (timerRange i.toNat).1 ∨ (timerRange i.toNat).2 < v.toNat) := by omega
  rw [run, if_neg (by exact Nat.not_lt.mpr named), if_neg (by exact inside), State.takeCommand_hostAccess]
  simp only [State.timers_hostAccess]
  rfl

end SetTimer

/-- Settles O33: the two range checks are those of Table 11-5, and the write is of the setting its selector names. -/
theorem setTimerWritesOneSetting : Obligations.SetTimerWritesOneSetting := by
  intro i v s accepted n good
  have fits : TimerFits i v ↔ good := timerFits_iff i v
  refine ⟨fun bad => exec_setTimer_range accepted (mt fits.mp bad), fun holds => ?_⟩
  have within := fits.mpr holds
  rw [exec_setTimer_ok accepted within, TimerSettings.write_eq _ within.1]

end Sys2Proof.Machine

/-! ## SOFT RESET (R47, R48, R54, R68, R93, R110, R125, R137, R148, R163, R168, R184) -/

namespace Sys2Proof.Machine

open Sys2Proof.Safety

/-! ### One record of each block -/

/-- An OFF link loses what it holds and keeps its transmitter and its numbers (R137; log entry 18). -/
theorem LinkSlice.softReset_off {l : LinkSlice} (off : l.state = .off) (time : Nat) : l.softReset time = { l with
    queue := [], backlog := [], hold := [], replayPoint := none, replayCount := 0, replayTimer := none, silenceTimer := none
    stray := false, badNotice := false, creditExcess := false, receiving := none
    positions := l.positions.map PositionRecord.absent } := by
  simp only [LinkSlice.softReset, LinkSlice.allAbsent, LinkSlice.clearFlags, off]

/-- Any other link loses what it holds too, and begins an attempt with its numbers at 0 (R115, R137). -/
theorem LinkSlice.softReset_on {l : LinkSlice} (on : l.state ≠ .off) (time : Nat) : l.softReset time = { l with
    queue := [], backlog := [], hold := [], replayPoint := none, replayCount := 0, replayTimer := none, silenceTimer := none
    stray := false, badNotice := false, creditExcess := false, receiving := none
    positions := l.positions.map PositionRecord.absent
    state := .training, partnerHeard := false, attemptCount := 0, nextSeq := 0, attemptTimer := some time
    helloInterval := true, tx := ⟨some (.hello false), false⟩ } := by
  cases state : l.state with
  | off => exact absurd state on
  | training | up | fault =>
    simp only [LinkSlice.softReset, LinkSlice.allAbsent, LinkSlice.clearFlags, state]
    rfl

theorem PresentRecord.softReset_eq (p : PresentRecord) : p.softReset = if p.state = .idle then p
    else { p with state := .idle, deadline := none, remaining := 0, outcome := .reset } := by
  cases state : p.state <;> simp [PresentRecord.softReset, state]

theorem TileRecord.softReset_eq (r : TileRecord) :
    r.softReset = if r.state = .disabled then r else { r with state := .waiting } := by
  cases state : r.state <;> simp [TileRecord.softReset, state]

/-! ### The links, one after the other -/

/-- What SOFT RESET makes of link k, its capture engine's work given up first (R93, R125, R137). -/
def State.resetLink (s : State) (k : Link) : LinkSlice :=
  LinkSlice.softReset { s.link k with engine := stoppedEngine (s.holds (.capture k)) (s.link k).engine } s.timers.attemptTime

theorem State.engine_resetLink (s : State) (k : Link) :
    (s.resetLink k).engine = stoppedEngine (s.holds (.capture k)) (s.link k).engine := LinkSlice.engine_softReset _ _

/-- One link's reset changes its slice and, in the arbiter, its waiting request. -/
theorem State.softResetLink_eq (s : State) (k : Link) : ∃ w, s.softResetLink k =
      { s with links := s.links.set k (s.resetLink k), arbiter := { s.arbiter with captureWaiting := w } } ∧
    { s.arbiter with captureWaiting := w } = s.arbiterLeaving k (s.resetLink k).engine := by
  obtain ⟨w, stopped, -⟩ := s.stopEngine_eq k
  have arbiter := s.arbiter_stopEngine k
  rw [stopped] at arbiter
  refine ⟨w, ?_, by rw [State.engine_resetLink]; exact arbiter⟩
  rw [State.softResetLink, stopped]
  simp [State.updateLink, State.setLink, State.link, State.resetLink]

/-- A waiting request that is withdrawn, or was not there, waits no more. -/
theorem State.captureWaiting_arbiterLeaving (s : State) (k j : Link) (e : CaptureEngine) :
    (s.arbiterLeaving k e).captureWaiting[j] =
      if j = k ∧ e = .idle ∧ (s.link k).engine ≠ .idle then false else s.arbiter.captureWaiting[j] := by
  unfold State.arbiterLeaving
  split
  · next stops => simp only [Arbiter.withdraw, Fin.getElem_fin, getElem_set_link, and_iff_left stops]
  · next goesOn => rw [if_neg fun h : j = k ∧ _ => goesOn h.2]

section Links

variable {s : State} {ks : List Link}

/-- The links' resets change links and waiting requests alone. -/
theorem softResetLinks_frame (ks : List Link) (s : State) : ∃ l w, ks.foldl State.softResetLink s =
    { s with links := l, arbiter := { s.arbiter with captureWaiting := w } } := by
  induction ks generalizing s with
  | nil => exact ⟨_, _, rfl⟩
  | cons k ks ih =>
    obtain ⟨w, one, -⟩ := s.softResetLink_eq k
    obtain ⟨l, w', rest⟩ := ih (s.softResetLink k)
    exact ⟨l, w', by rw [List.foldl_cons, rest, one]⟩

theorem link_softResetLink (s : State) (k j : Link) :
    (s.softResetLink k).link j = if j = k then s.resetLink k else s.link j := by
  obtain ⟨w, one, -⟩ := s.softResetLink_eq k
  exact link_of_links_set (by rw [one]) j

/-- A link's reset decides nothing about another's. -/
theorem resetLink_softResetLink {k j : Link} (other : j ≠ k) : (s.softResetLink k).resetLink j = s.resetLink j := by
  have link := link_softResetLink s k j
  rw [if_neg other] at link
  obtain ⟨w, one, -⟩ := s.softResetLink_eq k
  have holds : (s.softResetLink k).holds (.capture j) = s.holds (.capture j) := by rw [one]; rfl
  have timers : (s.softResetLink k).timers = s.timers := by rw [one]
  simp only [State.resetLink, link, holds, timers]

/-- Each link of a list without repetitions is reset from what it was at the beginning. -/
theorem link_softResetLinks (once : ks.Nodup) (j : Link) :
    (ks.foldl State.softResetLink s).link j = if j ∈ ks then s.resetLink j else s.link j := by
  induction ks generalizing s with
  | nil => rfl
  | cons k ks ih =>
    obtain ⟨fresh, once⟩ := List.nodup_cons.mp once
    rw [List.foldl_cons, ih once, link_softResetLink]
    by_cases here : j = k
    · simp [here, fresh]
    · simp [here, resetLink_softResetLink here]

theorem captureWaiting_softResetLink (s : State) (k j : Link) : (s.softResetLink k).arbiter.captureWaiting[j] =
    if j = k ∧ (s.resetLink k).engine = .idle ∧ (s.link k).engine ≠ .idle then false else s.arbiter.captureWaiting[j] := by
  obtain ⟨w, one, arbiter⟩ := s.softResetLink_eq k
  rw [← State.captureWaiting_arbiterLeaving, ← arbiter, one]

/-- No reset makes a request wait. -/
theorem not_waiting_softResetLinks {j : Link} (silent : s.arbiter.captureWaiting[j] = false) :
    (ks.foldl State.softResetLink s).arbiter.captureWaiting[j] = false := by
  induction ks generalizing s with
  | nil => exact silent
  | cons k ks ih =>
    refine ih ?_
    rw [captureWaiting_softResetLink, silent, ite_self]

/-- The request of work that is given up before its grant is withdrawn (R93, R125). -/
theorem withdrawn_softResetLinks {j : Link} (listed : j ∈ ks) (idle : (s.resetLink j).engine = .idle)
    (worked : (s.link j).engine ≠ .idle) : (ks.foldl State.softResetLink s).arbiter.captureWaiting[j] = false := by
  induction ks generalizing s with
  | nil => cases listed
  | cons k ks ih =>
    by_cases here : j = k
    · refine not_waiting_softResetLinks (s := s.softResetLink k) ?_
      rw [captureWaiting_softResetLink, if_pos ⟨here, here ▸ idle, here ▸ worked⟩]
    · refine ih ((List.mem_cons.mp listed).resolve_left here) ?_ ?_
      · rwa [resetLink_softResetLink here]
      · rwa [link_softResetLink, if_neg here]

end Links

/-! ### Every block (R184) -/

/-- Without its grant an engine whose work is given up is idle. -/
theorem stoppedEngine_of_no_grant {e : CaptureEngine} (changes : stoppedEngine false e ≠ e) :
    stoppedEngine false e = .idle ∧ e ≠ .idle := by
  cases e <;> simp_all [stoppedEngine]

/-- SOFT RESET as one change of the state. -/
theorem State.softReset_eq (s : State) : ∃ l w,
    s.softReset = { s with
      links := l
      arbiter := { s.arbiter with captureWaiting := w }
      window := { s.window with wrapped := false, windowBusy := false }
      map := { s.map with sweep := none }
      tiles := s.tiles.map TileRecord.softReset
      cells := Vector.replicate 16 (Vector.replicate 48 .hardReset)
      walker := ⟨s.walker.mode, 0, 0⟩
      present := s.present.softReset
      query := s.query.softReset
      attention := { s.attention with records := [], gapFlag := false, readOut := [] }
      cu := { s.cu with collision := false } } ∧
    (∀ j : Link, l[j] = s.resetLink j) ∧
    ∀ j : Link, (s.resetLink j).engine ≠ (s.link j).engine → s.holds (.capture j) = false → w[j] = false := by
  have link := fun j => link_softResetLinks (s := s) (List.nodup_finRange 4) j
  have withdrawn := fun j => withdrawn_softResetLinks (s := s) (List.mem_finRange (n := 4) j)
  obtain ⟨l, w, frame⟩ := softResetLinks_frame (List.finRange 4) s
  rw [frame] at link withdrawn
  refine ⟨l, w, ?_, fun j => ?_, fun j changes free => ?_⟩
  · simp only [State.softReset, frame]
  · exact (link j).trans (if_pos (List.mem_finRange j))
  · rw [State.engine_resetLink, free] at changes
    obtain ⟨idle, worked⟩ := stoppedEngine_of_no_grant changes
    exact withdrawn j (by rw [State.engine_resetLink, free, idle]) worked

/-- Settles O5: SOFT RESET as one change of the state, then its tiles, cells, arbiter and links one by one. -/
theorem softResetResetsEveryBlock : Obligations.SoftResetResetsEveryBlock := by
  intro s high idle
  have run : exec .softReset s = .next ((s.hostAccess.takeCommand 0x1A).softReset.complete []) := by
    change execSoftReset s = _
    rw [execSoftReset, State.access_running _ _ high, if_neg (by simp [idle])]
  rw [run, State.takeCommand_hostAccess, s.hostAccess_eq_withHost]
  generalize s.hostAccess.bus = b, s.hostAccess.freeCount = n
  obtain ⟨l, w, whole, link, withdrawn⟩ := State.softReset_eq { s.withHost b n with cu := running s 0x1A }
  refine ⟨_, rfl, ?_⟩
  rw [whole]
  refine ⟨rfl, ?_, fun u => ?_, fun u v => ?_, rfl, rfl, rfl, fun k => ?_⟩
  · rw [PresentRecord.softReset_eq]
    rfl
  · rw [← TileRecord.softReset_eq]
    exact Vector.getElem_map _ _
  · simp [State.cell, State.complete, State.finish, CellRecord.hardReset]
  · intro before after
    have reset : after = s.resetLink k := link k
    have engine : after.engine = stoppedEngine (s.holds (.capture k)) before.engine := by rw [reset, State.engine_resetLink]
    have waiting : after.engine ≠ before.engine → s.holds (.capture k) = false → w[k] = false := by
      rw [reset]
      exact withdrawn k
    by_cases off : before.state = .off
    · have reset : after = _ := reset.trans (LinkSlice.softReset_off (by exact off) _)
      clear_value after
      subst reset
      exact ⟨rfl, rfl, rfl, rfl, rfl, rfl, rfl, rfl, rfl, rfl, rfl, engine, waiting, fun p => Vector.getElem_map _ _,
        fun _ => ⟨off, rfl, rfl, rfl, rfl, rfl⟩, fun on => absurd off on⟩
    · have reset : after = _ := reset.trans (LinkSlice.softReset_on (by exact off) _)
      clear_value after
      subst reset
      exact ⟨rfl, rfl, rfl, rfl, rfl, rfl, rfl, rfl, rfl, rfl, rfl, engine, waiting, fun p => Vector.getElem_map _ _,
        fun still => absurd still off, fun _ => ⟨rfl, rfl, rfl, rfl, rfl, rfl, rfl⟩⟩

end Sys2Proof.Machine

/-! ## Notices and frames as bytes and symbols (R92, R96, R99, R102, R104, R188, R189) -/

namespace Sys2Proof.Machine

open Sys2Proof.Safety

/-! ### Notices (Table 11-10) -/

/-- A unit with its check behind it has a good check (R188). -/
theorem goodCheck_withCheck (bytes : List Byte) : goodCheck (withCheck bytes) = true := by
  have front : (withCheck bytes).length - 2 = bytes.length := by simp [withCheck, wordBytes]
  rw [goodCheck, front, withCheck, List.drop_left, List.take_left, beq_self_eq_true]

theorem noticeCommand_of_bad_check {bytes : List Byte} (bad : goodCheck bytes = false) (k : Link) :
    noticeCommand k bytes = .invalidNotice k := by
  unfold noticeCommand
  exact if_neg (by simp [bad])

section Fields

theorem toNat_append_byte {n : Nat} (hi : BitVec n) (lo : Byte) : (hi ++ lo).toNat = 256 * hi.toNat + lo.toNat := by
  rw [BitVec.toNat_append, ← Nat.shiftLeft_add_eq_or_of_lt lo.isLt, Nat.shiftLeft_eq, Nat.mul_comm]

theorem seqOf_eq {hi lo : Byte} {q : SeqNo} (h : q.toNat = (256 * hi.toNat + lo.toNat) % 4096) : seqOf hi lo = q := by
  refine BitVec.eq_of_toNat_eq ?_
  rw [seqOf, BitVec.extractLsb'_toNat, toNat_append_byte, Nat.shiftRight_zero, h]

theorem positionOf_eq {b : Byte} {p : Position} (h : p.val = b.toNat % 4) : positionOf b = p := by
  refine Fin.ext ?_
  change (b.extractLsb' 0 2).toNat % 4 = p.val
  rw [BitVec.extractLsb'_toNat, Nat.shiftRight_zero, h]
  exact Nat.mod_mod _ _

theorem chainLength_eq {b : Byte} {n : BitVec 3} (h : n.toNat = b.toNat % 8) : b.extractLsb' 0 3 = n := by
  refine BitVec.eq_of_toNat_eq ?_
  rw [BitVec.extractLsb'_toNat, Nat.shiftRight_zero, h]

theorem nibbles_eq {v : Vector Nibble 4} {a b c d : Nibble} (h : v.toList = [a, b, c, d]) : #v[a, b, c, d] = v :=
  Vector.toList_inj.mp h.symm

end Fields

section Notices

variable (k : Link)

theorem noticeCommand_ack (hi lo : Byte) : noticeCommand k (withCheck [0x82, hi, lo]) = .ackNotice k (seqOf hi lo) := by
  unfold noticeCommand
  rw [if_pos (goodCheck_withCheck _)]
  rfl

theorem noticeCommand_nak (hi lo : Byte) : noticeCommand k (withCheck [0x83, hi, lo]) = .nakNotice k (seqOf hi lo) := by
  unfold noticeCommand
  rw [if_pos (goodCheck_withCheck _)]
  rfl

theorem noticeCommand_tileStatus (b freed shown : Byte) : noticeCommand k (withCheck [0x84, b, freed, shown]) =
    .tileStatusNotice k (positionOf b) freed (b.extractLsb' 4 4) shown := by
  unfold noticeCommand
  rw [if_pos (goodCheck_withCheck _)]
  rfl

theorem noticeCommand_report (b tag shown r w3 w2 w1 w0 : Byte) :
    noticeCommand k (withCheck [0x85, b, tag, shown, r, w3, w2, w1, w0]) =
      .reportNotice k (positionOf b) tag (b.extractLsb' 4 4) shown (r.extractLsb' 0 4) (w3 ++ w2 ++ w1 ++ w0) := by
  unfold noticeCommand
  rw [if_pos (goodCheck_withCheck _)]
  rfl

theorem noticeCommand_idle : noticeCommand k (withCheck [0x86]) = .idleNotice k := by
  unfold noticeCommand
  rw [if_pos (goodCheck_withCheck _)]
  rfl

/-- A HELLO is examined before it is taken (R104). -/
theorem noticeCommand_hello (b p0 p1 p2 p3 : Byte) {n : BitVec 3} {capacity restart : Vector Nibble 4}
    (length : n.toNat = b.toNat % 8)
    (capacities : capacity.toList = [p0.extractLsb' 4 4, p1.extractLsb' 4 4, p2.extractLsb' 4 4, p3.extractLsb' 4 4])
    (restarts : restart.toList = [p0.extractLsb' 0 4, p1.extractLsb' 0 4, p2.extractLsb' 0 4, p3.extractLsb' 0 4]) :
    noticeCommand k (withCheck [0x81, b, p0, p1, p2, p3]) =
      if helloWellFormed n capacity then .helloNotice k (decide (128 ≤ b.toNat)) n capacity restart else .invalidNotice k := by
  have seen : b.msb = decide (128 ≤ b.toNat) := BitVec.msb_eq_decide b
  rw [← chainLength_eq length, ← nibbles_eq capacities, ← nibbles_eq restarts, ← seen]
  unfold noticeCommand
  rw [if_pos (goodCheck_withCheck _)]
  rfl

end Notices

/-! ### The bytes of a frame (Table 11-9) -/

/-- A field of two bytes, its high byte first (R188). -/
theorem map_toNat_wordBytes (w : Word) : (wordBytes w).map (·.toNat) = [w.toNat / 256, w.toNat % 256] := by
  have word := w.isLt
  simp only [wordBytes, List.map_cons, List.map_nil, BitVec.extractLsb'_toNat, Nat.shiftRight_eq_div_pow, List.cons.injEq,
    and_true]
  omega

theorem toNat_sequenceWord (q : SeqNo) (p : Position) (h : Bool) :
    (sequenceWord q p h).toNat = 16384 * p.val + 8192 * h.toNat + q.toNat := by
  have upward : sequenceWord q p h = pack [field 0 12 q.toNat, flag 13 h, field 14 2 p.val] := by
    simp only [sequenceWord, pack, List.foldl_cons, List.foldl_nil]
    ac_rfl
  have packed := toNat_pack [⟨0, 12, q.toNat⟩, ⟨13, 1, h.toNat⟩, ⟨14, 2, p.val⟩] (by simp [BitField.Ascending])
  have seq := q.isLt
  have hold := h.toNat_lt
  change (pack [field 0 12 q.toNat, flag 13 h, field 14 2 p.val]).toNat = _ at packed
  rw [upward, packed]
  simp only [BitField.weight, List.map_cons, List.map_nil, List.sum_cons, List.sum_nil]
  omega

theorem toNat_numWord {v : Nat} (fits : v < 65536) : (numWord v).toNat = v :=
  (BitVec.toNat_ofNat _ _).trans (Nat.mod_eq_of_lt fits)

theorem toNat_bandByte (w : WallBand) : (BitVec.ofNat 8 w.val).toNat = w.val :=
  (BitVec.toNat_ofNat _ _).trans (Nat.mod_eq_of_lt (by omega))

/-- A BAND's column and width are those of a tile's place on the wall (R42). -/
def Frame.BandFits (f : Frame) : Prop :=
  ∀ q p h w b column width payload, f = .sequenced q p h (.band w b column width) payload → column ≤ 504 ∧ width ≤ 512

theorem map_toNat_body {f : Frame} (fits : f.BandFits) : f.body.map (·.toNat) = frameBytes f := by
  cases f with
  | hello seen => cases seen <;> rfl
  | sequenced q p h body payload =>
    have word := map_toNat_wordBytes (sequenceWord q p h)
    rw [toNat_sequenceWord] at word
    cases body with
    | band w b column width =>
      obtain ⟨columnFits, widthFits⟩ := fits _ _ _ _ _ _ _ _ rfl
      have columnBytes := map_toNat_wordBytes (numWord column)
      have widthBytes := map_toNat_wordBytes (numWord width)
      rw [toNat_numWord (by omega)] at columnBytes widthBytes
      simp only [Frame.body, frameBytes, List.map_append, List.map_flatMap, word, columnBytes, widthBytes, toNat_bandByte,
        map_toNat_wordBytes, List.map_cons, List.map_nil]
      rfl
    | blank w =>
      simp only [Frame.body, frameBytes, List.map_append, word, toNat_bandByte, List.map_cons, List.map_nil]
      rfl
    | showTile n =>
      simp only [Frame.body, frameBytes, List.map_append, word, List.map_cons, List.map_nil]
      rfl
    | query g =>
      simp only [Frame.body, frameBytes, List.map_append, word, List.map_cons, List.map_nil]
      rfl

/-- The check of a frame is its four bytes, most significant first (R188). -/
theorem checkBytes_append (c : BitVec 32) :
    c.extractLsb' 24 8 ++ c.extractLsb' 16 8 ++ c.extractLsb' 8 8 ++ c.extractLsb' 0 8 = c := by
  have check := c.isLt
  refine BitVec.eq_of_toNat_eq ?_
  simp only [toNat_append_byte, BitVec.extractLsb'_toNat, Nat.shiftRight_eq_div_pow]
  omega

theorem length_bytes (f : Frame) : f.bytes.length = f.body.length + 4 := by
  simp [Frame.bytes]

theorem length_wordBytes (w : Word) : (wordBytes w).length = 2 := rfl

theorem length_payloadBytes (payload : List Word) : (payload.flatMap wordBytes).length = 2 * payload.length := by
  simp [List.length_flatMap, length_wordBytes, Nat.mul_comm]

/-! ### Segments (R99) -/

theorem length_flatMap_range {α : Type} (f : Nat → Nat → α) (n width : Nat) :
    ((List.range n).flatMap fun r => (List.range width).map (f r)).length = n * width := by
  simp [List.length_flatMap]

/-- The place of item i of list r in equally long lists, one behind the other. -/
theorem getElem?_flatMap_range {α : Type} (f : Nat → Nat → α) {n width r i : Nat} (hr : r < n) (hi : i < width) :
    ((List.range n).flatMap fun r => (List.range width).map (f r))[r * width + i]? = some (f r i) := by
  induction n with
  | zero => cases hr
  | succ n ih =>
    rw [List.range_succ, List.flatMap_append]
    rcases Nat.lt_succ_iff_lt_or_eq.mp hr with earlier | rfl
    · have before : r * width + i < n * width :=
        calc r * width + i < (r + 1) * width := by rw [Nat.succ_mul]; omega
          _ ≤ n * width := Nat.mul_le_mul_right _ earlier
      rw [List.getElem?_append_left (by rw [length_flatMap_range]; exact before), ih earlier]
    · rw [List.getElem?_append_right (by rw [length_flatMap_range]; omega), length_flatMap_range, Nat.add_sub_cancel_left]
      simp [hi]

section Segment

variable (m : List Host.Cell) (b : StoreBand) (column width : Nat)

theorem length_segment : (Memory.segment m b column width).length = 8 * width :=
  length_flatMap_range _ 8 width

theorem getElem?_segment {r i : Nat} {x y : Coord} (hr : r < 8) (hi : i < width) (hx : x.val = column + i)
    (hy : y.val = 8 * b.val + r) : (Memory.segment m b column width)[r * width + i]? = some (Memory.pixel m x y) := by
  rw [Memory.segment, getElem?_flatMap_range _ hr hi, ← hx, ← hy]
  simp

end Segment

/-! ### The symbols of a frame (R92, R188) -/

theorem cutSymbols_eq (f : Frame) (n : Nat) :
    f.cutSymbols n = (.start :: f.bytes.map Symbol.data).take (n + 1) ++ [.fill] := by
  rw [Frame.cutSymbols, List.take_succ_cons, List.map_take]

/-- Settles O51: each notice from its bytes, each frame's bytes field by field, the segment's rows, and the symbols. -/
theorem noticesAreReadFromTheirBytes : Obligations.NoticesAreReadFromTheirBytes := by
  refine ⟨fun k bytes invalid => ?_, fun kind rest => goodCheck_withCheck _, fun k hi lo q hq => ?_,
    fun k p b freed shown hp => ?_, fun k p b tag shown r w3 w2 w1 w0 hp => ?_, noticeCommand_idle,
    fun k b p0 p1 p2 p3 n capacity restart length capacities restarts => ?_, fun f fits => ?_,
    fun m b column width => ⟨length_segment m b column width, fun r i x y => getElem?_segment m b column width⟩,
    fun seen => by simp [length_bytes, Frame.body], fun q p h w b column width payload pixels => ?_,
    fun q p h w n g => ⟨rfl, rfl, rfl⟩⟩
  · rcases invalid with bad | wrong
    · exact noticeCommand_of_bad_check bad k
    · exact noticeCommand_of_not_lengthOfKind wrong k
  · rw [noticeCommand_ack, noticeCommand_nak, seqOf_eq hq]
    exact ⟨rfl, rfl⟩
  · rw [noticeCommand_tileStatus, positionOf_eq hp]
  · rw [noticeCommand_report, positionOf_eq hp]
  · rw [noticeCommand_hello k b p0 p1 p2 p3 length capacities restarts, ← helloWellFormed_iff]
    exact ⟨fun fit => if_pos fit, fun unfit => if_neg unfit⟩
  · refine ⟨map_toNat_body fits, _, _, _, _, checkBytes_append _, rfl, fun tx => ⟨fun sending => ?_, fun free => ?_,
      fun n _ => cutSymbols_eq f n⟩⟩
    · rw [Transmitter.symbols, sending]
      rfl
    · rw [Transmitter.symbols, free]
  · simp only [length_bytes, Frame.body, List.length_append, length_wordBytes, length_payloadBytes, pixels, List.length_cons,
      List.length_nil]
    omega

end Sys2Proof.Machine

/-! ## Registers and result words (R13, R172, R174 to R177, R182, R185, R186) -/

namespace Sys2Proof.Machine

open Sys2Proof.Safety

/-! ### What stands in a field of a packed word -/

/-- A word has a field's number in the field's place, as many bits of it as the field has. -/
def BitField.StandsIn (f : BitField) (w : Word) : Prop := w.toNat / 2 ^ f.lo % 2 ^ f.width = f.value % 2 ^ f.width

/-- Fields from `low` up leave the bits below it alone. -/
theorem BitField.two_pow_dvd_sum_weight {low : Nat} {fs : List BitField} (ascending : BitField.Ascending low fs) :
    2 ^ low ∣ (fs.map BitField.weight).sum := by
  induction fs generalizing low with
  | nil => exact dvd_zero _
  | cons f fs ih =>
    obtain ⟨above, -, rest⟩ := ascending
    rw [List.map_cons, List.sum_cons]
    exact dvd_add ((pow_dvd_pow 2 above).trans (Dvd.intro_left _ rfl)) ((pow_dvd_pow 2 (by omega)).trans (ih rest))

theorem BitField.Ascending.low_le {low : Nat} {fs : List BitField} (ascending : BitField.Ascending low fs) {f : BitField}
    (mem : f ∈ fs) : low ≤ f.lo := by
  induction fs generalizing low with
  | nil => cases mem
  | cons g fs ih =>
    obtain ⟨above, -, rest⟩ := ascending
    rcases List.mem_cons.mp mem with rfl | later
    · exact above
    · have := ih rest later
      omega

/-- The fields below do not reach a field's place, and those above do not touch it. -/
theorem BitField.sum_weight_div_mod {low : Nat} {fs : List BitField} (ascending : BitField.Ascending low fs) {f : BitField}
    (mem : f ∈ fs) : (fs.map BitField.weight).sum / 2 ^ f.lo % 2 ^ f.width = f.value % 2 ^ f.width := by
  induction fs generalizing low with
  | nil => cases mem
  | cons g fs ih =>
    obtain ⟨-, -, rest⟩ := ascending
    rw [List.map_cons, List.sum_cons]
    rcases List.mem_cons.mp mem with rfl | later
    · obtain ⟨m, sum⟩ := BitField.two_pow_dvd_sum_weight rest
      have place : f.weight + (fs.map BitField.weight).sum = (f.value % 2 ^ f.width + 2 ^ f.width * m) * 2 ^ f.lo := by
        rw [sum, BitField.weight, Nat.pow_add]
        ring
      rw [place, Nat.mul_div_cancel _ (Nat.two_pow_pos _), Nat.add_mul_mod_self_left, Nat.mod_mod]
    · obtain ⟨d, place⟩ := Nat.exists_eq_add_of_le (rest.low_le later)
      obtain ⟨m, sum⟩ := BitField.two_pow_dvd_sum_weight rest
      have below : g.weight < 2 ^ (g.lo + g.width) := by
        have := g.weight_le
        have := Nat.two_pow_pos g.lo
        omega
      have same : (g.weight + (fs.map BitField.weight).sum) / 2 ^ f.lo = (fs.map BitField.weight).sum / 2 ^ f.lo := by
        rw [place, Nat.pow_add, ← Nat.div_div_eq_div_mul, ← Nat.div_div_eq_div_mul, sum,
          Nat.add_mul_div_left _ _ (Nat.two_pow_pos _), Nat.div_eq_of_lt below, Nat.zero_add,
          Nat.mul_div_cancel_left _ (Nat.two_pow_pos _)]
      rw [same, ih rest later]

/-- A word packed of ascending fields holds each of them. -/
theorem BitField.standsIn_pack (fs : List BitField) (ascending : BitField.Ascending 0 fs) :
    ∀ f ∈ fs, f.StandsIn (pack (fs.map fun f => field f.lo f.width f.value)) := fun f mem => by
  rw [BitField.StandsIn, toNat_pack fs ascending]
  exact BitField.sum_weight_div_mod ascending mem

namespace BitField.StandsIn

variable {w : Word} {lo width v : Nat}

theorem toNat_extractLsb' (h : StandsIn ⟨lo, width, v⟩ w) (small : v < 2 ^ width) : (w.extractLsb' lo width).toNat = v := by
  rw [BitVec.extractLsb'_toNat, Nat.shiftRight_eq_div_pow]
  exact h.trans (Nat.mod_eq_of_lt small)

theorem extractLsb'_eq {x : BitVec width} (h : StandsIn ⟨lo, width, x.toNat⟩ w) : w.extractLsb' lo width = x :=
  BitVec.eq_of_toNat_eq (h.toNat_extractLsb' x.isLt)

theorem getLsbD_eq {b : Bool} (h : StandsIn ⟨lo, 1, b.toNat⟩ w) : w.getLsbD lo = b := by
  have bit : w.toNat / 2 ^ lo % 2 = b.toNat := h.trans (Nat.mod_eq_of_lt b.toNat_lt)
  rw [BitVec.getLsbD, Nat.testBit_eq_decide_div_mod_eq, bit]
  cases b <;> rfl

end BitField.StandsIn

/-! ### Result words (Table 11-7) -/

theorem TileState.code_lt (x : TileState) : x.code < 4 := by cases x <;> decide

theorem CellState.code_lt (x : CellState) : x.code < 8 := by cases x <;> decide

theorem WalkerMode.code_lt (x : WalkerMode) : x.code < 2 := by cases x <;> decide

theorem PresentState.code_lt (x : PresentState) : x.code < 4 := by cases x <;> decide

theorem LinkState.code_lt (x : LinkState) : x.code < 4 := by cases x <;> decide

theorem ResultCode.code_lt (x : ResultCode) : x.code < 16 := by cases x <;> decide

/-- A word of 32 bits is its two halves, the upper first. -/
theorem halves_append (x : BitVec 32) : x.extractLsb' 16 16 ++ x.extractLsb' 0 16 = x := by
  have word := x.isLt
  refine BitVec.eq_of_toNat_eq ?_
  rw [BitVec.toNat_append, Nat.shiftLeft_eq, Nat.mul_comm, ← Nat.two_pow_add_eq_or_of_lt (BitVec.isLt _)]
  simp only [BitVec.extractLsb'_toNat, Nat.shiftRight_eq_div_pow]
  omega

section ResultWords

/-- The eight words of TILE READ (R46). -/
theorem State.tileReadWords_fields (s : State) (t : TileIdx) : ∃ a b c d e f g h, s.tileReadWords t = [a, b, c, d, e, f, g, h] ∧
    a.toNat = (s.tile t).state.code ∧
    (b.extractLsb' 0 2).toNat = (s.tile t).link.val ∧ (b.extractLsb' 4 2).toNat = (s.tile t).position.val ∧
    ((s.tile t).firstColumn ≤ 504 → c.toNat = (s.tile t).firstColumn) ∧ ((s.tile t).width ≤ 512 → d.toNat = (s.tile t).width) ∧
    ((s.tile t).firstBand ≤ 47 → (e.extractLsb' 0 6).toNat = (s.tile t).firstBand) ∧
    ((s.tile t).bandCount ≤ 48 → (e.extractLsb' 8 6).toNat = (s.tile t).bandCount) ∧
    let p := (s.link (s.tile t).link).position (s.tile t).position
    f.getLsbD 0 = p.present ∧ (p.capacity ≤ 15 → (f.extractLsb' 4 4).toNat = p.capacity) ∧
    (p.credit ≤ 15 → (f.extractLsb' 8 4).toNat = p.credit) ∧
    (p.outstanding ≤ 15 → (g.extractLsb' 0 4).toNat = p.outstanding) ∧ g.extractLsb' 8 8 = p.lastFreed ∧
    h.extractLsb' 0 4 = p.restart ∧ h.getLsbD 7 = p.shownValid ∧ h.extractLsb' 8 8 = p.shown := by
  dsimp only [State.tileReadWords]
  generalize s.tile t = r
  generalize (s.link r.link).position r.position = p
  have place := BitField.standsIn_pack [⟨0, 2, r.link.val⟩, ⟨4, 2, r.position.val⟩] (by simp [BitField.Ascending])
  have bands := BitField.standsIn_pack [⟨0, 6, r.firstBand⟩, ⟨8, 6, r.bandCount⟩] (by simp [BitField.Ascending])
  have credit := BitField.standsIn_pack [⟨0, 1, p.present.toNat⟩, ⟨4, 4, p.capacity⟩, ⟨8, 4, p.credit⟩]
    (by simp [BitField.Ascending])
  have freed := BitField.standsIn_pack [⟨0, 4, p.outstanding⟩, ⟨8, 8, p.lastFreed.toNat⟩] (by simp [BitField.Ascending])
  have shown := BitField.standsIn_pack [⟨0, 4, p.restart.toNat⟩, ⟨7, 1, p.shownValid.toNat⟩, ⟨8, 8, p.shown.toNat⟩]
    (by simp [BitField.Ascending])
  have code := r.state.code_lt
  exact ⟨_, _, _, _, _, _, _, _, rfl, toNat_numWord (by omega),
    (place _ (by simp)).toNat_extractLsb' r.link.isLt, (place _ (by simp)).toNat_extractLsb' r.position.isLt,
    fun column => toNat_numWord (by omega), fun width => toNat_numWord (by omega),
    fun first => (bands _ (by simp)).toNat_extractLsb' (by omega), fun count => (bands _ (by simp)).toNat_extractLsb' (by omega),
    (credit _ (by simp)).getLsbD_eq, fun capacity => (credit _ (by simp)).toNat_extractLsb' (by omega),
    fun left => (credit _ (by simp)).toNat_extractLsb' (by omega),
    fun outstanding => (freed _ (by simp)).toNat_extractLsb' (by omega), (freed _ (by simp)).extractLsb'_eq,
    (shown _ (by simp)).extractLsb'_eq, (shown _ (by simp)).getLsbD_eq, (shown _ (by simp)).extractLsb'_eq⟩

/-- The six words of QUERY READ (R53). -/
theorem QueryRecord.words_fields (q : QueryRecord) : ∃ a b c d e f, q.words = [a, b, c, d, e, f] ∧
    a.getLsbD 0 = q.waiting ∧ (a.extractLsb' 8 2).toNat = q.outcome.code ∧
    (b.extractLsb' 0 4).toNat = q.tile.val ∧ b.extractLsb' 8 8 = q.tag ∧
    c.extractLsb' 0 4 = q.capacity ∧ c.extractLsb' 8 4 = q.restart ∧ d.toNat = q.shown.toNat ∧ e ++ f = q.tileWord := by
  have outcome := BitField.standsIn_pack [⟨0, 1, q.waiting.toNat⟩, ⟨8, 2, q.outcome.code⟩] (by simp [BitField.Ascending])
  have tile := BitField.standsIn_pack [⟨0, 4, q.tile.val⟩, ⟨8, 8, q.tag.toNat⟩] (by simp [BitField.Ascending])
  have capacity := BitField.standsIn_pack [⟨0, 4, q.capacity.toNat⟩, ⟨8, 4, q.restart.toNat⟩] (by simp [BitField.Ascending])
  have shown := q.shown.isLt
  exact ⟨_, _, _, _, _, _, rfl, (outcome _ (by simp)).getLsbD_eq, (outcome _ (by simp)).toNat_extractLsb' q.outcome.code_lt,
    (tile _ (by simp)).toNat_extractLsb' q.tile.isLt, (tile _ (by simp)).extractLsb'_eq,
    (capacity _ (by simp)).extractLsb'_eq, (capacity _ (by simp)).extractLsb'_eq, toNat_numWord (by omega),
    halves_append q.tileWord⟩

/-- The four words of CELL READ (R76). -/
theorem State.cellReadWords_fields (s : State) (t : TileIdx) (w : WallBand) : ∃ a b c d, s.cellReadWords t w = [a, b, c, d] ∧
    a.toNat = (s.cell t w).state.code ∧ b.getLsbD 0 = (s.cell t w).marked ∧ b.getLsbD 1 = (s.tile t).hasBand w ∧
    (c.extractLsb' 0 1).toNat = s.walker.mode.code ∧ c.getLsbD 1 = s.walkerRunning ∧
    (d.extractLsb' 0 4).toNat = s.walker.tile.val ∧ (d.extractLsb' 8 6).toNat = s.walker.band.val := by
  have marks := BitField.standsIn_pack [⟨0, 1, (s.cell t w).marked.toNat⟩, ⟨1, 1, ((s.tile t).hasBand w).toNat⟩]
    (by simp [BitField.Ascending])
  have mode := BitField.standsIn_pack [⟨0, 1, s.walker.mode.code⟩, ⟨1, 1, s.walkerRunning.toNat⟩] (by simp [BitField.Ascending])
  have cursor := BitField.standsIn_pack [⟨0, 4, s.walker.tile.val⟩, ⟨8, 6, s.walker.band.val⟩] (by simp [BitField.Ascending])
  have code := (s.cell t w).state.code_lt
  have band := s.walker.band.isLt
  exact ⟨_, _, _, _, rfl, toNat_numWord (by omega), (marks _ (by simp)).getLsbD_eq, (marks _ (by simp)).getLsbD_eq,
    (mode _ (by simp)).toNat_extractLsb' s.walker.mode.code_lt, (mode _ (by simp)).getLsbD_eq,
    (cursor _ (by simp)).toNat_extractLsb' s.walker.tile.isLt, (cursor _ (by simp)).toNat_extractLsb' (by omega)⟩

/-- The five words of PRESENT READ (R167). -/
theorem PresentRecord.words_fields (p : PresentRecord) : ∃ a b c d e, p.words = [a, b, c, d, e] ∧
    (a.extractLsb' 0 2).toNat = p.state.code ∧ (a.extractLsb' 8 3).toNat = p.outcome.code ∧ b.toNat = p.number.toNat ∧
    (p.remaining ≤ 768 → c.toNat = p.remaining) ∧
    (∀ t : TileIdx, d.getLsbD t.val = TileSet.has p.participants t ∧ e.getLsbD t.val = TileSet.has p.shown t) := by
  have codes := BitField.standsIn_pack [⟨0, 2, p.state.code⟩, ⟨8, 3, p.outcome.code⟩] (by simp [BitField.Ascending])
  have number := p.number.isLt
  exact ⟨_, _, _, _, _, rfl, (codes _ (by simp)).toNat_extractLsb' p.state.code_lt,
    (codes _ (by simp)).toNat_extractLsb' p.outcome.code_lt, toNat_numWord (by omega), fun _ => toNat_numWord (by omega),
    fun _ => ⟨rfl, rfl⟩⟩

end ResultWords

/-! ### Registers (R185, Table 11-6) -/

section Registers

theorem toNat_byte_lt (n : Byte) : n.toNat < 256 := n.isLt

/-- COMMAND STATUS, field by field. -/
theorem CommandUnit.status_fields (c : CommandUnit) :
    c.status.extractLsb' 0 8 = c.lastCode ∧ (c.status.extractLsb' 8 4).toNat = c.lastResult.code ∧
    c.status.getLsbD 12 = c.done ∧ c.status.getLsbD 13 = c.collision ∧ c.status.getLsbD 14 = c.overflow := by
  have fields := BitField.standsIn_pack [⟨0, 8, c.lastCode.toNat⟩, ⟨8, 4, c.lastResult.code⟩, ⟨12, 1, c.done.toNat⟩,
    ⟨13, 1, c.collision.toNat⟩, ⟨14, 1, c.overflow.toNat⟩] (by simp [BitField.Ascending])
  exact ⟨(fields _ (by simp)).extractLsb'_eq, (fields _ (by simp)).toNat_extractLsb' c.lastResult.code_lt,
    (fields _ (by simp)).getLsbD_eq, (fields _ (by simp)).getLsbD_eq, (fields _ (by simp)).getLsbD_eq⟩

/-- A word packed of ascending fields that hold their values whole is the sum of the values at their places. -/
theorem toNat_pack_of_fits (fs : List BitField) (ascending : BitField.Ascending 0 fs) (fits : ∀ f ∈ fs, f.value < 2 ^ f.width) :
    (pack (fs.map fun f => field f.lo f.width f.value)).toNat = (fs.map fun f => f.value * 2 ^ f.lo).sum := by
  rw [toNat_pack fs ascending]
  exact congrArg List.sum (List.map_congr_left fun f mem => by rw [BitField.weight, Nat.mod_eq_of_lt (fits f mem)])

theorem State.toNat_deviceStatus (s : State) (params : s.cu.params.length ≤ 8) (results : s.cu.results.length ≤ 8) :
    s.deviceStatus.toNat = s.notReady.toNat + 2 * s.cu.busy.toNat + 4 * s.present.state.code + 16 * s.cu.params.length +
      256 * s.cu.results.length := by
  have packed := toNat_pack_of_fits [⟨0, 1, s.notReady.toNat⟩, ⟨1, 1, s.cu.busy.toNat⟩, ⟨2, 2, s.present.state.code⟩,
    ⟨4, 4, s.cu.params.length⟩, ⟨8, 4, s.cu.results.length⟩] (by simp [BitField.Ascending])
    (by simp [Bool.toNat_le, PresentState.code_lt]; omega)
  refine packed.trans ?_
  simp only [List.map_cons, List.map_nil, List.sum_cons, List.sum_nil]
  omega

theorem CommandUnit.toNat_status (c : CommandUnit) : c.status.toNat = c.lastCode.toNat + 256 * c.lastResult.code +
    4096 * c.done.toNat + 8192 * c.collision.toNat + 16384 * c.overflow.toNat := by
  have packed := toNat_pack_of_fits [⟨0, 8, c.lastCode.toNat⟩, ⟨8, 4, c.lastResult.code⟩, ⟨12, 1, c.done.toNat⟩,
    ⟨13, 1, c.collision.toNat⟩, ⟨14, 1, c.overflow.toNat⟩] (by simp [BitField.Ascending])
    (by simp [Bool.toNat_le, ResultCode.code_lt, toNat_byte_lt])
  refine packed.trans ?_
  simp only [List.map_cons, List.map_nil, List.sum_cons, List.sum_nil]
  omega

theorem PixelWindow.toNat_status (w : PixelWindow) : w.status.toNat = w.wrapped.toNat + 2 * w.windowBusy.toNat := by
  have packed := toNat_pack_of_fits [⟨0, 1, w.wrapped.toNat⟩, ⟨1, 1, w.windowBusy.toNat⟩] (by simp [BitField.Ascending])
    (by simp [Bool.toNat_le])
  refine packed.trans ?_
  simp only [List.map_cons, List.map_nil, List.sum_cons, List.sum_nil]
  omega

theorem PresentRecord.toNat_status (p : PresentRecord) :
    p.status.toNat = p.state.code + 4 * p.outcome.code + 256 * p.number.toNat := by
  have packed := toNat_pack_of_fits [⟨0, 2, p.state.code⟩, ⟨2, 3, p.outcome.code⟩, ⟨8, 8, p.number.toNat⟩]
    (by simp [BitField.Ascending]) (by simp [PresentState.code_lt, PresentOutcome.code_lt, toNat_byte_lt])
  refine packed.trans ?_
  simp only [List.map_cons, List.map_nil, List.sum_cons, List.sum_nil]
  omega

theorem Attention.toNat_count (a : Attention) (depth : a.records.length ≤ 16) :
    a.count.toNat = a.records.length + 32768 * a.gapFlag.toNat := by
  have packed := toNat_pack_of_fits [⟨0, 5, a.records.length⟩, ⟨15, 1, a.gapFlag.toNat⟩] (by simp [BitField.Ascending])
    (by simp [Bool.toNat_le]; omega)
  refine packed.trans ?_
  simp only [List.map_cons, List.map_nil, List.sum_cons, List.sum_nil]
  omega

theorem Attention.toNat_enables (a : Attention) : a.enables.toNat = a.attentionEnable.toNat + 2 * a.doneEnable.toNat := by
  have packed := toNat_pack_of_fits [⟨0, 1, a.attentionEnable.toNat⟩, ⟨1, 1, a.doneEnable.toNat⟩] (by simp [BitField.Ascending])
    (by simp [Bool.toNat_le])
  refine packed.trans ?_
  simp only [List.map_cons, List.map_nil, List.sum_cons, List.sum_nil]
  omega

theorem State.toNat_attentionPending (s : State) : s.attentionPending.toNat = if s.attention.records = [] then 0 else 1 := by
  rw [State.attentionPending]
  cases s.attention.records <;> rfl

theorem State.toNat_interruptPending (s : State) :
    s.interruptPending.toNat = (if s.attention.records = [] then 0 else 1) + 2 * s.cu.done.toNat := by
  have packed := toNat_pack_of_fits [⟨0, 1, s.attentionPending.toNat⟩, ⟨1, 1, s.cu.done.toNat⟩] (by simp [BitField.Ascending])
    (by simp [Bool.toNat_le])
  refine packed.trans ?_
  rw [← State.toNat_attentionPending]
  simp only [List.map_cons, List.map_nil, List.sum_cons, List.sum_nil]
  omega

theorem LinkSlice.toNat_status (l : LinkSlice) : l.status.toNat = l.state.code + 4 * l.replayPoint.isSome.toNat +
    8 * l.stray.toNat + 16 * l.badNotice.toNat + 32 * l.creditExcess.toNat := by
  have packed := toNat_pack_of_fits [⟨0, 2, l.state.code⟩, ⟨2, 1, l.replaying.toNat⟩, ⟨3, 1, l.stray.toNat⟩,
    ⟨4, 1, l.badNotice.toNat⟩, ⟨5, 1, l.creditExcess.toNat⟩] (by simp [BitField.Ascending])
    (by simp [Bool.toNat_le, LinkState.code_lt])
  refine packed.trans ?_
  simp only [List.map_cons, List.map_nil, List.sum_cons, List.sum_nil, LinkSlice.replaying]
  omega

end Registers

/-! ### Locations (Table 11-1, R176) -/

namespace State

variable {s : State}

theorem readLocation_results_cons {v : Word} {rest : List Word} (results : s.cu.results = v :: rest) :
    s.readLocation 0x06 = v := by
  change s.cu.results.head?.getD 0 = v
  rw [results]
  rfl

theorem readLocation_results_nil (empty : s.cu.results = []) : s.readLocation 0x06 = 0 := by
  change s.cu.results.head?.getD 0 = 0
  rw [empty]
  rfl

variable (s)

theorem readLocation_pixelData :
    s.readLocation 0x08 = if s.fill.running ∨ s.notReady then 0 else s.window.latch :=
  if_congr s.pixelsClosed_iff rfl rfl

/-- LINK STATUS of link k is at location 11h + k. -/
theorem readLocation_link {k : Link} {a : Fin 32} (place : a.val = 0x11 + k.val) : s.readLocation a = (s.link k).status := by
  rw [readLocation, place]
  match k with
  | 0 => rfl
  | 1 => rfl
  | 2 => rfl
  | 3 => rfl

/-- The write-only and the unused locations read 0. -/
theorem readLocation_unused {a : Fin 32} (unused : a = 0x04 ∨ a = 0x05 ∨ 0x15 ≤ a) : s.readLocation a = 0 := by
  rcases unused with rfl | rfl | above
  · rfl
  · rfl
  · have beyond : 0x15 ≤ a.val := above
    rw [readLocation]
    split
    any_goals omega
    rfl

end State

/-- The host reads of Table 11-1 that have an effect. -/
theorem hostRead_cases {a : Fin 32} {c : Instr} (read : hostRead a = some c) :
    a = 0x06 ∧ c = .resultRead ∨ a = 0x07 ∧ c = .commandStatusRead ∨ a = 0x08 ∧ c = .pixelRead ∨
      a = 0x0D ∧ c = .attentionRead := by
  rw [hostRead] at read
  split at read
  case h_1 place => exact .inl ⟨Fin.ext place, (Option.some.inj read).symm⟩
  case h_2 place => exact .inr (.inl ⟨Fin.ext place, (Option.some.inj read).symm⟩)
  case h_3 place => exact .inr (.inr (.inl ⟨Fin.ext place, (Option.some.inj read).symm⟩))
  case h_4 place => exact .inr (.inr (.inr ⟨Fin.ext place, (Option.some.inj read).symm⟩))
  case h_5 => cases read

section HostReads

variable {s : State} (high : s.nReset = true)
include high

theorem resultRead_delivers : ∃ t, exec .resultRead s = .next t ∧ t.bus.data = s.readLocation 0x06 := by
  cases results : s.cu.results with
  | nil => exact ⟨_, exec_resultRead_empty high results, (State.readLocation_results_nil results).symm⟩
  | cons v rest => exact ⟨_, exec_resultRead_word high results, (State.readLocation_results_cons results).symm⟩

/-- A free PIXEL DATA delivers the latch; a closed one delivers 0. -/
theorem pixelRead_delivers (settled : s.fill.running = true ∨ s.notReady = true ∨ WindowFree s) :
    ∃ t, exec .pixelRead s = .next t ∧ t.bus.data = s.readLocation 0x08 := by
  obtain ⟨modifies, advances, -, refuses⟩ := pixelReadGivesTheLatch s high
  rw [State.readLocation_pixelData]
  by_cases closed : s.fill.running = true ∨ s.notReady = true
  · exact ⟨_, refuses closed, (if_pos closed).symm⟩
  · obtain ⟨noFill, ready⟩ := not_or.mp closed
    rw [Bool.not_eq_true] at noFill ready
    have free : WindowFree s := by simpa [noFill, ready] using settled
    cases mode : s.window.modify with
    | true => exact ⟨_, modifies noFill ready free mode, (if_neg closed).symm⟩
    | false => exact ⟨_, advances noFill ready free mode, (if_neg closed).symm⟩

/-- A read with an effect gives the host the word that stands at its location. -/
theorem exec_hostRead_delivers {a : Fin 32} {c : Instr} (read : hostRead a = some c)
    (settled : a = 0x08 → s.fill.running = true ∨ s.notReady = true ∨ WindowFree s) :
    ∃ t, exec c s = .next t ∧ t.bus.data = s.readLocation a := by
  rcases hostRead_cases read with ⟨rfl, rfl⟩ | ⟨rfl, rfl⟩ | ⟨rfl, rfl⟩ | ⟨rfl, rfl⟩
  · exact resultRead_delivers high
  · exact ⟨_, exec_commandStatusRead high, rfl⟩
  · exact pixelRead_delivers high (settled rfl)
  · exact ⟨_, exec_attentionRead high ⟨rfl, rfl⟩, rfl⟩

end HostReads

/-- Settles O30: each list of result words, COMMAND STATUS, each location of Table 11-1 and the reads that deliver it, the codes. -/
theorem wordsHoldTheirFields : Obligations.WordsHoldTheirFields := by
  refine ⟨State.tileReadWords_fields, QueryRecord.words_fields, State.cellReadWords_fields, PresentRecord.words_fields,
    CommandUnit.status_fields, fun s => ⟨rfl, rfl, rfl, s.toNat_deviceStatus, fun _ _ => State.readLocation_results_cons,
      State.readLocation_results_nil, s.cu.toNat_status, s.readLocation_pixelData, rfl, s.window.toNat_status,
      s.present.toNat_status, fun fits => toNat_field_zero (by decide) (by omega),
      fun _ _ within => (Attention.read_within within).1, fun _ _ done oldest => (Attention.read_oldest done oldest).1,
      fun done empty => (Attention.read_none done empty).1, s.attention.toNat_count, s.attention.toNat_enables,
      s.toNat_interruptPending, fun k a place => ?_, fun _ => s.readLocation_unused,
      fun a c read high settled => exec_hostRead_delivers high read settled⟩, rfl, rfl, rfl, rfl, rfl, rfl, rfl, rfl⟩
  rw [s.readLocation_link place, LinkSlice.toNat_status]

end Sys2Proof.Machine

/-! ## The queue of waiting commands: only a step takes from it (log entry 1) -/

namespace Sys2Proof.Machine

/-! ### Link-side work and the window side -/

section Queue

variable {s t u : State}

theorem LinkSideWork.pending (work : LinkSideWork s t) : t.pending = s.pending := by rw [work.kept]

theorem EndsAtOnce.pending (ends : EndsAtOnce s t) : t.pending = s.pending := by
  obtain ⟨u, r, ws, work, rfl⟩ := ends
  exact work.pending

/-- Two branches that leave the queue. -/
theorem pending_ite {p : Prop} [Decidable p] (yes : t.pending = s.pending) (no : u.pending = s.pending) :
    (if p then t else u).pending = s.pending := by
  split
  · exact yes
  · exact no

namespace State

variable (s : State)

@[simp] theorem pending_loadEnded (cause : LoadCause) : (s.loadEnded cause).pending = s.pending := by cases cause <;> rfl

/-- What waits for the window side is its own list, not the queue of commands (R12). -/
@[simp] theorem pending_runHeld (held : List HeldOp) : (State.runHeld held s).pending = s.pending := by
  induction held generalizing s with
  | nil => rfl
  | cons op rest ih =>
    cases op with
    | pixelRead =>
      simp only [State.runHeld, State.readLatch_eq]
      exact pending_ite (ih _) rfl
    | setMode o m => exact ih _
    | pixelWrite _ => rfl
    | setWindow _ => rfl
    | setPointer _ _ => rfl
    | fillStart => rfl

@[simp] theorem pending_takeWindowOp (op : HeldOp) : (s.takeWindowOp op).pending = s.pending :=
  pending_ite (s.pending_runHeld _) rfl

theorem pending_endLoad (cause : LoadCause) : (s.endLoad cause).pending = s.pending := by simp [State.endLoad_eq]

theorem pending_mapCommand (m : BandMap) : (s.mapCommand m).pending = s.pending := by
  unfold State.mapCommand
  split <;> rfl

theorem pending_sweepPass : s.sweepPass.pending = s.pending := by
  unfold State.sweepPass
  split
  · next w rest _ =>
    have swept := (linkSideWork_sweepBand s w).pending
    simp only []
    generalize s.sweepBand w = u at swept
    exact pending_ite swept swept
  · rfl

theorem pending_softReset : s.softReset.pending = s.pending := by
  obtain ⟨l, w, e, -⟩ := s.softReset_eq
  rw [e]

end State

/-! ### Events, accesses and command writes -/

theorem pending_event {f : State → State} (h : s.event f = .next t) (hf : ∀ s, (f s).pending = s.pending) :
    t.pending = s.pending := by
  obtain rfl : (if s.nReset then f s else s) = t := by simpa [State.event] using h
  exact pending_ite (hf s) rfl

/-- An event that does link-side work. -/
theorem pending_linkEvent {f : State → State} (h : s.event f = .next t) (work : ∀ s, LinkSideWork s (f s)) :
    t.pending = s.pending := pending_event h fun s => (work s).pending

theorem pending_access {f : State → State} (h : s.access f = .next t) (hf : ∀ s, (f s).pending = s.pending) :
    t.pending = s.pending := pending_event h fun s => (hf _).trans s.pending_hostAccess

/-- A command write whose own rule leaves the queue; a collision and the first checks do (R179, R180). -/
theorem pending_commandWrite {code : Byte} {n : Nat} {body : List Word → State → State}
    (h : s.commandWrite code n body = .next t) (hb : ∀ ps s, (body ps s).pending = s.pending) : t.pending = s.pending := by
  refine pending_access h fun s => ?_
  rcases s.command_cases code n body with ⟨-, e⟩ | ⟨-, _, -, e⟩ | ⟨-, -, -, -, e⟩
  · rw [e]; rfl
  · rw [e]
  · rw [e]; exact hb _ _

theorem pending_linkCommand {code : Byte} {body : Link → State → State} (h : s.linkCommand code body = .next t)
    (hb : ∀ k s, (body k s).pending = s.pending) : t.pending = s.pending :=
  pending_commandWrite h fun _ s => pending_ite rfl (hb _ s)

end Queue

/-! ### Every command -/

theorem exec_pending {c : Instr} {s t : State} (h : exec c s = .next t) : t.pending = s.pending := by
  cases c with dsimp only [exec] at h
  | hardReset => cases h; rfl
  | hardResetEnd => cases h; exact pending_ite rfl rfl
  | startUpClearRow => exact pending_event h fun s => pending_ite (by rw [State.endClearRow_eq]) rfl
  | pixelWrite v => exact pending_access h fun s => pending_ite rfl (State.pending_takeWindowOp _ _)
  | pixelRead => exact pending_access h fun s => pending_ite rfl (State.pending_takeWindowOp _ _)
  | windowWriteLanding =>
    refine pending_event h fun s => ?_
    split
    · exact pending_ite (by rw [State.land_eq]) rfl
    all_goals rfl
  | latchLoad =>
    refine pending_event h fun s => ?_
    split
    · exact pending_ite (s.pending_endLoad _) rfl
    all_goals rfl
  | fillRow => exact pending_event h fun s => pending_ite (by rw [State.endFillRow_eq]) rfl
  | remapSweepPass => exact pending_event h State.pending_sweepPass
  | walkerExamination => exact pending_linkEvent h fun s => linkSideWork_if fun _ => s.linkSideWork_examine
  | dispatchSelection k => exact pending_linkEvent h fun s => s.linkSideWork_select k
  | captureGrantEnd k =>
    exact pending_linkEvent h fun s => linkSideWork_if fun holds => s.linkSideWork_endCapture k (holder_of_holds holds)
  | transmissionEnd k => exact pending_event h fun _ => rfl
  | helloInterval k => exact pending_event h fun _ => pending_ite rfl rfl
  | attemptTimeout k => exact pending_linkEvent h fun s => linkSideWork_if fun _ => s.linkSideWork_attemptTimedOut k
  | helloNotice k seen n capacity restart =>
    exact pending_linkEvent h fun s => s.linkSideWork_takeHello k seen n capacity restart
  | ackNotice k q => exact pending_linkEvent h fun s => s.linkSideWork_notice k fun s => s.linkSideWork_takeAck k q
  | nakNotice k q => exact pending_linkEvent h fun s => s.linkSideWork_notice k fun s => s.linkSideWork_takeNak k q
  | tileStatusNotice k p freed restart shown =>
    exact pending_linkEvent h fun s =>
      s.linkSideWork_notice k fun s => s.linkSideWork_takeTileStatus k p freed restart shown
  | reportNotice k p tag capacity shown restart word =>
    exact pending_linkEvent h fun s =>
      s.linkSideWork_notice k fun s => s.linkSideWork_takeReport k p tag capacity shown restart word
  | idleNotice k => exact pending_linkEvent h fun s => s.linkSideWork_notice k .refl
  | invalidNotice k => exact pending_linkEvent h fun s => s.linkSideWork_badNotice k
  | replayTimeout k => exact pending_linkEvent h fun s => linkSideWork_if fun _ => s.linkSideWork_replayTimedOut k
  | replayRetransmission k => exact pending_linkEvent h fun s => s.linkSideWork_retransmit k
  | reReadGrantEnd k =>
    exact pending_linkEvent h fun s => linkSideWork_if fun holds => s.linkSideWork_endReRead k (holder_of_holds holds)
  | silenceTimeout k => exact pending_linkEvent h fun s => linkSideWork_if fun _ => s.linkSideWork_loseLink k _ _
  | queryTimeout => exact pending_event h fun _ => pending_ite rfl rfl
  | presentDeadline =>
    refine pending_linkEvent h fun s => linkSideWork_if fun _ => ?_
    split
    · exact s.linkSideWork_endPresent _ _
    · exact s.linkSideWork_endPresent _ _
    · exact .refl s
  | resultRead =>
    refine pending_access h fun s => ?_
    split <;> rfl
  | parameterWrite _ | commandStatusRead | attentionRead | writeMaskWrite _ | interruptEnableWrite _ | registerWrite _ _ =>
    exact pending_access h fun _ => rfl
  | unknownCommand code =>
    unfold execUnknownCommand at h
    split at h
    · cases h
    · exact pending_access h fun _ => pending_ite rfl rfl
  | setWindow | setPointer | setMode | fill =>
    exact pending_commandWrite h fun _ s => pending_ite rfl (State.pending_takeWindowOp _ _)
  | mapSet | setRollRegion => exact pending_commandWrite h fun _ s => pending_ite rfl (s.pending_mapCommand _)
  | roll => exact pending_commandWrite h fun _ s => pending_ite rfl (pending_ite rfl (s.pending_mapCommand _))
  | queryRead | presentRead => exact pending_commandWrite h fun _ _ => rfl
  | mapRead | tileRead | cellRead | setWalker => exact pending_commandWrite h fun _ _ => pending_ite rfl rfl
  | configureWall | tileSet | setTimer =>
    exact pending_commandWrite h fun _ _ => pending_ite rfl (pending_ite rfl rfl)
  | tileEnable | queryTile =>
    exact pending_commandWrite h fun _ _ => pending_ite rfl (pending_ite rfl (pending_ite rfl (pending_ite rfl rfl)))
  | tileDisable =>
    exact pending_commandWrite h fun _ s => pending_ite rfl (pending_ite ((s.linkSideWork_disableTile _).endsAtOnce _).pending rfl)
  | linkEnable =>
    refine pending_linkCommand h fun k s => ?_
    split <;> rfl
  | linkDisable =>
    refine pending_linkCommand h fun k s => ?_
    split
    · rfl
    · rfl
    · rfl
    · exact ((s.linkSideWork_loseLink k _ _).endsAtOnce _).pending
  | linkReset =>
    refine pending_linkCommand h fun k s => ?_
    split
    · rfl
    · rfl
    · rfl
    · exact ((s.linkSideWork_loseLink k _ _).endsAtOnce _).pending
  | linkClearFlags => exact pending_linkCommand h fun _ _ => rfl
  | present =>
    refine pending_commandWrite h fun _ s => ?_
    split
    · rfl
    · rfl
    · exact pending_ite (s.linkSideWork_cut.endsAtOnce _).pending rfl
  | cancelPresent =>
    refine pending_commandWrite h fun _ s => ?_
    split
    · exact ((s.linkSideWork_endPresent _ _).endsAtOnce _).pending
    all_goals rfl
  | softReset =>
    exact pending_access h fun s => pending_ite rfl <|
      (State.pending_complete _ _).trans (s.takeCommand 0x1A).pending_softReset

theorem step_of_front {c : Instr} {rest : List Instr} {s : State} (front : s.pending = c :: rest) :
    step s = exec c { s with pending := rest } := by simp only [step, front]

theorem step_of_empty {s : State} (empty : s.pending = []) : step s = .next s := by simp only [step, empty]

/-- Settles O1: `step` at the two shapes of the queue, and every arm of `exec` leaves the queue. -/
theorem stepRunsTheFrontCommand : Obligations.StepRunsTheFrontCommand :=
  ⟨fun _ _ _ => step_of_front, fun _ _ _ => exec_pending, fun _ => step_of_empty⟩

end Sys2Proof.Machine
